-- ==== Sys2Proof/Word.lean ====
section
/-! DEFINITION. The word types of the block, one name per width of the spec's parameter table
(00_scope.md rule R5): every register value is an unsigned integer (rule R7), so all of them are
plain bit vectors. -/

namespace Sys2Proof

/-- A 16-bit word: TICK, timestamps, RES, ACC, CMD, the counters, and an operation's operand
(TICK_W = WORD_W = CNT_W = 16, rule R5). -/
abbrev Word := BitVec 16

/-- A byte of the storage or of a constant byte string (rules R39, R64). -/
abbrev Byte := BitVec 8

/-- An index into the timestamp buffer (IDX_W = 7, rule R5). -/
abbrev Idx := BitVec 7

/-- The non-volatile cursor (CUR_W = 9, rule R5: it must hold the value C = 256). -/
abbrev Cursor := BitVec 9

/-- An operation word, 32 bits (30_encoding.md rule R85). -/
abbrev OpWord := BitVec 32

/-- A word of the host's register space (10_state.md rule R42). -/
abbrev HostWord := BitVec 32

/-- A word address of the host's register space, 0x000 to 0x1FF (20_memory.md rule R60). -/
abbrev HostAddr := BitVec 9

end Sys2Proof
end

