-- ==== Sys2Proof/Config.lean ====
section
/-! DEFINITION. What is fixed for a whole execution: the parameters the spec leaves OPEN (00_scope.md
rule R5, 93_implementation_defined.md U6) with CAP and TICK_W, as plain data, and the free values
(93_implementation_defined.md U1 to U4, U8) as constants without a body. -/

namespace Sys2Proof

/-- The order of a TICK and an EDGE that fall at the same instant (00_scope.md rule R5, TIE_ORDER;
60_exceptions.md rule R216). -/
inductive TieOrder where
  | tickFirst
  | edgeFirst
  | either
  deriving DecidableEq, Repr

/-- The configuration: arguments of the model, fixed for a whole execution (10_state.md rules R20,
R45; 70_reset_and_hazards.md rule R242). TICK_W and CAP have the reference values 16 and 100; the byte
strings and the keys have no value in the source. -/
structure Config where
  /-- TICK_W, the width of TICK and of every timestamp, 6 to 16 (92_eei_decisions.md D2). -/
  tickW : Nat
  /-- CAP, the capacity of the Edge Timestamp Buffer. -/
  cap : Nat
  /-- HEADER, 12 bytes. -/
  header : List Byte
  /-- TRAILER, 3 bytes. -/
  trailer : List Byte
  keyFwd : Word
  keyRew : Word
  keyPlay : Word
  keyStop : Word
  lblFwd : List Byte
  lblRew : List Byte
  lblStop : List Byte
  /-- LBL_UNK, the label of a value that is no key. -/
  lblUnk : List Byte
  /-- TIE_ORDER. -/
  tieOrder : TieOrder
  deriving DecidableEq, Repr

/-- TESTCFG (00_scope.md rule R10) with the reference TICK_W, CAP and TIE_ORDER of rule R5: the spec's
own illustration. DESIGN CHOICE (log entry 6): `State.reset` carries it because it must carry some
configuration; no statement rests on its values. -/
def Config.testcfg : Config where
  tickW := 16
  cap := 100
  header := [0x48, 0x44, 0x52, 0x2D, 0x45, 0x58, 0x41, 0x4D, 0x50, 0x4C, 0x45, 0x0A]
  trailer := [0x45, 0x4E, 0x44]
  keyFwd := 0x10EF
  keyRew := 0x20DF
  keyPlay := 0xA55A
  keyStop := 0x40BF
  lblFwd := [0x66, 0x77, 0x64]
  lblRew := [0x72, 0x65, 0x77]
  lblStop := [0x73, 0x74, 0x70]
  lblUnk := [0x75, 0x6E, 0x6B]
  tieOrder := .either

/-- The byte an address of NV holds before anything wrote it: an arbitrary function of the address
(93_implementation_defined.md U3). A free value, log entry 9. -/
opaque Config.nvInitial : Nat → Byte

/-- What a timestamp entry that was never written holds (93_implementation_defined.md U1). A free
value, log entry 10. -/
opaque Config.tsUnwritten : Nat → Word

/-- The byte a host read returns for the address that is being programmed, "possibly different on
each read" (93_implementation_defined.md U2). A free value, applied to the model's counter of free
values, log entry 11. -/
opaque Config.inFlightByte : Nat → Byte

/-- The byte left at NV_ADDR by a reset that arrives during a write (93_implementation_defined.md
U4). A free value, applied to the counter of free values, log entry 12. -/
opaque Config.cutByte : Nat → Byte

/-- Whether the TICK comes first when a TICK and an EDGE coincide and TIE_ORDER is `either`
(93_implementation_defined.md U8). A free value, applied to the counter of free values, log entry
14. -/
opaque Config.tieTickFirst : Nat → Bool

end Sys2Proof
end

