-- ==== Sys2Proof/Machine/Constants.lean ====
section
/-! DEFINITION. The parameters with a fixed value (00_scope.md rule R5) and the byte codes. -/

namespace Sys2Proof.Machine

/-- First classifier threshold, ticks. -/
def tShort : Nat := 5

/-- Second classifier threshold, ticks. -/
def tHl : Nat := 15

/-- Third classifier threshold, ticks. -/
def tLong : Nat := 30

/-- C, the ceiling of the non-volatile address space, bytes. -/
def ceiling : Nat := 256

/-- WORD_W, the number of bits of a command word. -/
def wordW : Nat := 16

/-- TRAILER_ADDR, the address of the closing marker. -/
def trailerAddr : Word := 253

/-- SUMMARY_ADDR, the address of the command label. -/
def summaryAddr : Word := 250

/-- The greatest duration the three digits of a record can hold (44_recorder.md rule R164). -/
def fmtMax : Nat := 999

/-- The ASCII code of "0" (00_scope.md rule R7, 93_implementation_defined.md G1). -/
def asciiZero : Nat := 0x30

/-- The newline byte (00_scope.md rule R7, 93_implementation_defined.md G1). -/
def newline : Byte := 0x0A

/-- LBL_PLAY, "ply": the one label the source gives (00_scope.md rule R5, 93_implementation_defined.md
G2). -/
def lblPlay : List Byte := [0x70, 0x6C, 0x79]

/-- OPW, the host word address of the command port (10_state.md rule R42). -/
def opwAddr : HostAddr := 0x10

end Sys2Proof.Machine
end

