-- ==== Sys2Proof/Syntax.lean ====
section
/-! DEFINITION. The operation set as syntax: one constructor of `Instr` per row of
spec/opcode_table.json (30_encoding.md rule R88), the enumerations of rules R92 and R93, and the
sequencer's micro-steps (10_state.md rule R33). -/

namespace Sys2Proof

/-- Where an operation's 16-bit operand `arg` comes from: the immediate field (R = 0) or RES (R = 1)
(30_encoding.md rule R86). -/
inductive Operand where
  | imm (v : Word)
  | res
  deriving DecidableEq, Repr

/-- The operations, in the order of the opcode table (30_encoding.md rule R88). An operation with no
operand ignores R and imm, so its constructor carries neither (rule R91). -/
inductive Instr where
  -- events of TIMER, PIN and NVDEV
  | tick
  | edge
  | nvdone
  -- Clock/Timer Service
  | now
  -- Edge Capture Queue
  | hasp
  | peek
  | adv
  | mask
  | unmask
  -- Pulse Classifier
  | delta (t : Operand)
  | classify (d : Operand)
  -- Command Decoder
  | decShort
  | decLow
  | decHigh
  | decLong
  | decR
  -- Non-volatile Recorder
  | wbyte (b : Operand)
  | seek (a : Operand)
  | record (d : Operand)
  | whdr
  | wtrl
  | wlbl
  | nvWait
  | nvMode
  | nvLoad (ad : Operand)
  | nvArm
  | nvCommit
  -- Session Controller
  | sInit
  | sPoll
  | sClose
  | sIdle
  deriving DecidableEq, Repr

/-- The four symbols (30_encoding.md rule R92). -/
inductive Symbol where
  | short
  | low
  | high
  | long
  deriving DecidableEq, Repr

/-- The five states of the Session Controller (10_state.md rule R32). -/
inductive Sess where
  | init
  | collecting
  | draining
  | closing
  | idle
  deriving DecidableEq, Repr

/-- One entry of USTEP, the list of what SEQ still has to do inside a macro-operation (10_state.md
rule R33: "a model may represent them as a list of primitive operations still to run"). -/
inductive Micro where
  /-- An operation of the opcode table; a macro among them is expanded when its turn comes. -/
  | op (i : Instr)
  /-- `NV_CURSOR <- NV_CURSOR + 1`, the last step of a WBYTE (44_recorder.md rule R161). -/
  | bumpCursor
  /-- `PV_T <- PREV_VALID` (45_session.md rule R188). -/
  | savePv
  /-- `if PV_T = 1 then RECORD.R; CLASSIFY.R; DEC.R` (45_session.md rule R188). -/
  | ifPv
  /-- `if RES = 1 then SESS <- DRAINING; drain; SESS <- COLLECTING` (45_session.md rule R187). -/
  | ifPending
  /-- `SESS <- x` (45_session.md rules R186, R187, R189). -/
  | setSess (x : Sess)
  deriving DecidableEq, Repr

end Sys2Proof
end

