-- ==== Sys2Proof/WellFormed.lean ====
section
/-! DEFINITION. Well-formedness. An `Instr` has fields of exactly the encoding's widths, so every
term of it stands for a word of the opcode table; what remains to check is who may issue it
(30_encoding.md rule R89), what the sequencer may hold, and the constraints the parameters must meet
(00_scope.md rules R5, R6). -/

namespace Sys2Proof

/-- Whether SEQ may issue the operation, from the command port or from the session sequence: all but
the three events (30_encoding.md rules R88, R89). -/
def Instr.issuable : Instr → Bool
  | .tick => false
  | .edge => false
  | .nvdone => false
  | _ => true

/-- Whether the operation is one of the four session operations S.INIT, S.POLL, S.CLOSE, S.IDLE. They
are issued from the outside only (45_session.md rules R191, R192); no expansion contains one. -/
def Instr.session : Instr → Bool
  | .sInit => true
  | .sPoll => true
  | .sClose => true
  | .sIdle => true
  | _ => false

/-- What SEQ may hold in USTEP: any operation an expansion of 44_recorder.md and 45_session.md
contains (30_encoding.md rule R99), never an event and never a session operation. -/
def Micro.wf : Micro → Bool
  | .op i => i.issuable && !i.session
  | _ => true

/-- The constraints of the parameters: 6 <= TICK_W <= 16 and the fixed lengths HEADER_LEN = 12,
TRAILER_LEN = 3, LBL_LEN = 3 (00_scope.md rule R5), CAP >= 1 (rule R6), and CAP fits the 7-bit
indices (IDX_W, rule R5). -/
def Config.wf (c : Config) : Bool :=
  decide (6 ≤ c.tickW) && decide (c.tickW ≤ 16) && decide (1 ≤ c.cap) && decide (c.cap ≤ 127) &&
    decide (c.header.length = 12) && decide (c.trailer.length = 3) &&
    decide (c.lblFwd.length = 3) && decide (c.lblRew.length = 3) &&
    decide (c.lblStop.length = 3) && decide (c.lblUnk.length = 3)

end Sys2Proof
end

