-- ==== Sys2Proof/Decode.lean ====
section
/-! DEFINITION. The operation word (30_encoding.md rules R85 to R91): its fields, the decoder (total
on every 32-bit word, refusing the reserved ones), the command port's decoder, the encoder written
from the same rules, and spec/opcode_table.json as a list of rows. -/

namespace Sys2Proof

/-! ### Fields (rule R85) -/

/-- Bits 31:25, which must be 0. -/
def OpWord.z (w : OpWord) : BitVec 7 := w.extractLsb' 25 7

/-- Bit 24, the operand select. -/
def OpWord.r (w : OpWord) : Bool := w.getLsbD 24

/-- Bits 23:16, the opcode. -/
def OpWord.op (w : OpWord) : BitVec 8 := w.extractLsb' 16 8

/-- Bits 15:0, the immediate operand. -/
def OpWord.imm (w : OpWord) : Word := w.extractLsb' 0 16

/-- "The word of an operation is `(R << 24) | (op << 16) | imm`" (rule R85). -/
def OpWord.make (r : Bool) (op : BitVec 8) (imm : Word) : OpWord :=
  ((BitVec.ofBool r).setWidth 32 <<< 24) ||| (op.setWidth 32 <<< 16) ||| imm.setWidth 32

/-- The operand select with the immediate: rule R86's two sources of `arg`. -/
def OpWord.operand (w : OpWord) : Operand :=
  if OpWord.r w then .res else .imm (OpWord.imm w)

/-! ### Decoding -/

/-- Opcode 0x40: the fixed forms match R = 0 and imm[1:0], DEC.R matches R = 1 (rules R88, R91). -/
def decodeDec (w : OpWord) : Instr :=
  if OpWord.r w then .decR
  else
    match ((OpWord.imm w).extractLsb' 0 2).toNat with
    | 0 => .decShort
    | 1 => .decLow
    | 2 => .decHigh
    | _ => .decLong

/-- The opcodes of SEQ's operations (rule R88); every other opcode is reserved. -/
def decodeSeq (w : OpWord) : Option Instr :=
  match (OpWord.op w).toNat with
  | 0x10 => some .now
  | 0x20 => some .hasp
  | 0x21 => some .peek
  | 0x22 => some .adv
  | 0x23 => some .mask
  | 0x24 => some .unmask
  | 0x30 => some (.delta (OpWord.operand w))
  | 0x31 => some (.classify (OpWord.operand w))
  | 0x40 => some (decodeDec w)
  | 0x50 => some (.wbyte (OpWord.operand w))
  | 0x51 => some (.seek (OpWord.operand w))
  | 0x52 => some (.record (OpWord.operand w))
  | 0x53 => some .whdr
  | 0x54 => some .wtrl
  | 0x55 => some .wlbl
  | 0x58 => some .nvWait
  | 0x59 => some .nvMode
  | 0x5A => some (.nvLoad (OpWord.operand w))
  | 0x5B => some .nvArm
  | 0x5C => some .nvCommit
  | 0x60 => some .sInit
  | 0x61 => some .sPoll
  | 0x62 => some .sClose
  | 0x63 => some .sIdle
  | _ => none

/-- The decoder of operation words as names of steps (rule R85: "the name of a step in an execution
trace"). The three event words match exactly (rules R89, R91); a word with Z != 0 and a word whose
opcode is not in the map are refused (rule R90). -/
def decode (w : OpWord) : Option Instr :=
  if w = 0x00010000#32 then some .tick
  else if w = 0x00020000#32 then some .edge
  else if w = 0x00030000#32 then some .nvdone
  else if OpWord.z w = 0#7 then decodeSeq w
  else none

/-- The decoder of the command port: an event word is refused there (rules R89, R90). -/
def decodePort (w : OpWord) : Option Instr :=
  match decode w with
  | some i => if i.issuable then some i else none
  | none => none

/-! ### Encoding -/

/-- The canonical word of an operation without an operand (rule R91: R and imm are 0). -/
def encodePlain (op : BitVec 8) : OpWord := OpWord.make false op 0#16

/-- The word of an operation with an operand (rules R85, R86). -/
def encodeOperand (op : BitVec 8) : Operand → OpWord
  | .imm v => OpWord.make false op v
  | .res => OpWord.make true op 0#16

/-- The canonical word of every operation (rules R85, R88, R89). -/
def encode : Instr → OpWord
  | .tick => encodePlain 0x01
  | .edge => encodePlain 0x02
  | .nvdone => encodePlain 0x03
  | .now => encodePlain 0x10
  | .hasp => encodePlain 0x20
  | .peek => encodePlain 0x21
  | .adv => encodePlain 0x22
  | .mask => encodePlain 0x23
  | .unmask => encodePlain 0x24
  | .delta t => encodeOperand 0x30 t
  | .classify d => encodeOperand 0x31 d
  | .decShort => OpWord.make false 0x40 0
  | .decLow => OpWord.make false 0x40 1
  | .decHigh => OpWord.make false 0x40 2
  | .decLong => OpWord.make false 0x40 3
  | .decR => OpWord.make true 0x40 0
  | .wbyte b => encodeOperand 0x50 b
  | .seek a => encodeOperand 0x51 a
  | .record d => encodeOperand 0x52 d
  | .whdr => encodePlain 0x53
  | .wtrl => encodePlain 0x54
  | .wlbl => encodePlain 0x55
  | .nvWait => encodePlain 0x58
  | .nvMode => encodePlain 0x59
  | .nvLoad ad => encodeOperand 0x5A ad
  | .nvArm => encodePlain 0x5B
  | .nvCommit => encodePlain 0x5C
  | .sInit => encodePlain 0x60
  | .sPoll => encodePlain 0x61
  | .sClose => encodePlain 0x62
  | .sIdle => encodePlain 0x63

/-! ### The opcode table -/

/-- One row of spec/opcode_table.json: a word belongs to the row when `w &&& mask = pattern`. -/
structure Row where
  mnemonic : String
  pattern : OpWord
  mask : OpWord
  deriving DecidableEq, Repr

/-- Whether a word belongs to a row (rule R91). -/
def Row.matches (row : Row) (w : OpWord) : Bool := decide (w &&& row.mask = row.pattern)

/-- Mask of an event row: the whole word (rule R91). -/
def maskExact : OpWord := 0xFFFFFFFF

/-- Mask of an ordinary row: Z and op (rule R91). -/
def maskZOp : OpWord := 0xFEFF0000

/-- Mask of a fixed DEC row: Z, R, op and imm[1:0] (rule R91). -/
def maskDec : OpWord := 0xFFFF0003

/-- Mask of the DEC.R row: Z, R and op (rule R91). -/
def maskDecR : OpWord := 0xFFFF0000

/-- The row of an operation. -/
def Instr.row : Instr → Row
  | .tick => ⟨"TICK", 0x00010000, maskExact⟩
  | .edge => ⟨"EDGE", 0x00020000, maskExact⟩
  | .nvdone => ⟨"NVDONE", 0x00030000, maskExact⟩
  | .now => ⟨"NOW", 0x00100000, maskZOp⟩
  | .hasp => ⟨"HASP", 0x00200000, maskZOp⟩
  | .peek => ⟨"PEEK", 0x00210000, maskZOp⟩
  | .adv => ⟨"ADV", 0x00220000, maskZOp⟩
  | .mask => ⟨"MASK", 0x00230000, maskZOp⟩
  | .unmask => ⟨"UNMASK", 0x00240000, maskZOp⟩
  | .delta _ => ⟨"DELTA", 0x00300000, maskZOp⟩
  | .classify _ => ⟨"CLASSIFY", 0x00310000, maskZOp⟩
  | .decShort => ⟨"DEC.SHORT", 0x00400000, maskDec⟩
  | .decLow => ⟨"DEC.LOW", 0x00400001, maskDec⟩
  | .decHigh => ⟨"DEC.HIGH", 0x00400002, maskDec⟩
  | .decLong => ⟨"DEC.LONG", 0x00400003, maskDec⟩
  | .decR => ⟨"DEC.R", 0x01400000, maskDecR⟩
  | .wbyte _ => ⟨"WBYTE", 0x00500000, maskZOp⟩
  | .seek _ => ⟨"SEEK", 0x00510000, maskZOp⟩
  | .record _ => ⟨"RECORD", 0x00520000, maskZOp⟩
  | .whdr => ⟨"WHDR", 0x00530000, maskZOp⟩
  | .wtrl => ⟨"WTRL", 0x00540000, maskZOp⟩
  | .wlbl => ⟨"WLBL", 0x00550000, maskZOp⟩
  | .nvWait => ⟨"NV.WAIT", 0x00580000, maskZOp⟩
  | .nvMode => ⟨"NV.MODE", 0x00590000, maskZOp⟩
  | .nvLoad _ => ⟨"NV.LOAD", 0x005A0000, maskZOp⟩
  | .nvArm => ⟨"NV.ARM", 0x005B0000, maskZOp⟩
  | .nvCommit => ⟨"NV.COMMIT", 0x005C0000, maskZOp⟩
  | .sInit => ⟨"S.INIT", 0x00600000, maskZOp⟩
  | .sPoll => ⟨"S.POLL", 0x00610000, maskZOp⟩
  | .sClose => ⟨"S.CLOSE", 0x00620000, maskZOp⟩
  | .sIdle => ⟨"S.IDLE", 0x00630000, maskZOp⟩

/-- One operation of every row, in the table's order. -/
def instrOfRow : List Instr :=
  [.tick, .edge, .nvdone, .now] ++ [.hasp, .peek, .adv, .mask, .unmask] ++
    [.delta .res, .classify .res] ++ [.decShort, .decLow, .decHigh, .decLong, .decR] ++
    [.wbyte .res, .seek .res, .record .res, .whdr, .wtrl, .wlbl] ++
    [.nvWait, .nvMode, .nvLoad .res, .nvArm, .nvCommit] ++ [.sInit, .sPoll, .sClose, .sIdle]

/-- spec/opcode_table.json, 31 rows. -/
def opcodeTable : List Row := instrOfRow.map Instr.row

/-! ### Who executes an operation (rule R88) -/

/-- The five agents (00_scope.md rule R4). -/
inductive Agent where
  | timer
  | pin
  | nvdev
  | seq
  | host
  deriving DecidableEq, Repr

/-- The "agent" column of rule R88. -/
def Instr.agent : Instr → Agent
  | .tick => .timer
  | .edge => .pin
  | .nvdone => .nvdev
  | _ => .seq

/-- The "kind" column of rule R88. -/
inductive OpKind where
  | event
  | primitive
  | macroOp
  deriving DecidableEq, Repr

/-- The kind of every operation (rule R88). -/
def Instr.kind : Instr → OpKind
  | .tick | .edge | .nvdone => .event
  | .wbyte _ | .record _ | .whdr | .wtrl | .wlbl | .sInit | .sPoll | .sClose => .macroOp
  | _ => .primitive

/-! ### The host's question -/

/-- What the decoder reads from an instruction of `nbits` bits whose value is `w`. An operation word
is one unit of 32 bits without a byte order (20_memory.md rule R63), so nothing is laid out in bytes.
-/
def decodeTableWord (nbits w : Nat) : Option Instr :=
  if nbits ≤ 32 ∧ w < 2 ^ nbits then decode (BitVec.ofNat 32 w) else none

end Sys2Proof
end

