-- ==== Sys2Proof/Machine/State.lean ====
section
/-! DEFINITION. The state of the block (10_state.md rule R20), the agenda of inputs the model adds to
it, the reasons a step can stop (the spec has none), and the state after reset (rule R47). -/

namespace Sys2Proof.Machine

/-- Why the machine stops. There is no constructor, because the block has no faults: "No operation
ever faults, traps or aborts" (60_exceptions.md rule R210), and no case of
93_implementation_defined.md is `fault` or `stuck`. Nobody raises one. -/
inductive Fault where
  deriving DecidableEq, Repr

/-- Why the model gives an instruction no meaning. The spec's own refused operations are no refusals
of the model: they raise BAD_OP and go on (30_encoding.md rule R90). -/
inductive Refusal where
  /-- An arm of `exec` whose instruction has no meaning yet. Raised by `exec` alone; safe. No arm
  answers it now. -/
  | notModelled (mnemonic : String)
  deriving DecidableEq, Repr

/-- What HOST does with one turn (00_scope.md rule R4; 10_state.md rule R42; 70_reset_and_hazards.md
rule R240). -/
inductive HostAct where
  /-- A read of the word at a host address. -/
  | read (a : HostAddr)
  /-- A write of a word to a host address; only the command port listens. -/
  | write (a : HostAddr) (v : HostWord)
  /-- Reset, with the level of the strap STEP_MODE. -/
  | reset (strap : Bool)
  deriving DecidableEq, Repr

/-- One entry of the agenda: whose step comes next. The model's own (log entry 1): a list of turns is
an interleaving of the agents' steps (00_scope.md rule R9). -/
inductive Turn where
  /-- TIMER: a TICK step. -/
  | timer
  /-- PIN: an EDGE step. -/
  | pin
  /-- NVDEV: an NVDONE step. -/
  | nvdev
  /-- SEQ: its next step. -/
  | seq
  /-- HOST. -/
  | host (a : HostAct)
  /-- A TICK and an EDGE that fall at the same instant (60_exceptions.md rule R216). -/
  | tickAndEdge
  deriving DecidableEq, Repr

/-- The agents that move by themselves, in the order in which they take turns when the agenda names nobody
(70_reset_and_hazards.md rule R257). The model's own (log entry 2). -/
inductive Rota where
  | seq
  | timer
  | nvdev
  deriving DecidableEq, Repr

/-- The state. The fields from `tick` to `nv` are the elements of 10_state.md rule R20, under their
names; `cfg` and `stepMode` are the arguments of rule R20 that are fixed for an execution; `agenda`,
`rota`, `freeCtr` and `hostData` are the model's own (log entries 1, 2, 13). -/
structure State where
  /-- The parameters (rules R20, R45). -/
  cfg : Config
  /-- The strap STEP_MODE as sampled at reset (rule R43): true is STEP, false is AUTO. -/
  stepMode : Bool
  /-- TICK (rule R21). -/
  tick : Word
  /-- TS (rule R22): the entries written since reset, by index. -/
  ts : List (Nat × Word)
  /-- WR_IDX (rule R23). -/
  wrIdx : Idx
  /-- RD_IDX (rule R24). -/
  rdIdx : Idx
  /-- PREV_TS (rule R25). -/
  prevTs : Word
  /-- PREV_VALID (rule R25). -/
  prevValid : Bool
  /-- ACC (rule R26). -/
  acc : Word
  /-- BITPOS (rule R27). -/
  bitpos : BitVec 4
  /-- CMD (rule R28). -/
  cmd : Word
  /-- FRAMES (rule R29). -/
  frames : Word
  /-- NV_CURSOR (rule R30). -/
  nvCursor : Cursor
  /-- RES (rule R31). -/
  res : Word
  /-- SESS (rule R32). -/
  sess : Sess
  /-- USTEP (rule R33): what SEQ still has to do inside a macro-operation; empty between operations. -/
  ustep : List Micro
  /-- PV_T (rule R33). -/
  pvT : Bool
  /-- CE (rule R34). -/
  ce : Bool
  /-- NV_BUSY (rule R35). -/
  nvBusy : Bool
  /-- NV_ARM (rule R35). -/
  nvArm : Bool
  /-- NV_MODE (rule R35). -/
  nvMode : Bool
  /-- NV_ADDR (rule R36). -/
  nvAddr : Byte
  /-- NV_DATA (rule R36). -/
  nvData : Byte
  /-- COND (rule R37). -/
  cond : BitVec 8
  /-- EDGE_FULL_DROPS (rule R38). -/
  edgeFullDrops : Word
  /-- EDGE_MASK_DROPS (rule R38). -/
  edgeMaskDrops : Word
  /-- NV_CEIL_DROPS (rule R38). -/
  nvCeilDrops : Word
  /-- NV (rule R39): the bytes that hold a known value, by address. -/
  nv : List Host.Cell
  /-- The turns still to be taken, first first (log entry 1). -/
  agenda : List Turn
  /-- Whose turn it is when the agenda names nobody (log entry 2). -/
  rota : Rota
  /-- How many free values have been drawn (log entry 13). -/
  freeCtr : Nat
  /-- The word the last host read returned (log entry 13). -/
  hostData : HostWord
  deriving DecidableEq, Repr

/-- The outcome of a step. -/
abbrev Result := Host.Outcome State Fault Refusal

/-- The block after a reset with configuration `cfg`, strap `strap` and storage contents `nv` (10_state.md
rule R47). PV_T has no reset value but "no macro-operation in progress"; false is a DESIGN CHOICE (log
entry 17). -/
def State.afterReset (cfg : Config) (strap : Bool) (nv : List Host.Cell) : State where
  cfg := cfg
  stepMode := strap
  tick := 0
  ts := []
  wrIdx := 0
  rdIdx := 0
  prevTs := 0
  prevValid := false
  acc := 0
  bitpos := 0
  cmd := 0
  frames := 0
  nvCursor := 0
  res := 0
  sess := .init
  ustep := []
  pvT := false
  ce := false
  nvBusy := false
  nvArm := false
  nvMode := false
  nvAddr := 0
  nvData := 0
  cond := 0
  edgeFullDrops := 0
  edgeMaskDrops := 0
  nvCeilDrops := 0
  nv := nv
  agenda := []
  rota := .seq
  freeCtr := 0
  hostData := 0

/-- The machine right after its first reset: AUTO mode (STEP_MODE = 0, 00_scope.md rule R5), nothing
known of the storage, no turn on the agenda, and TESTCFG as the configuration (DESIGN CHOICE, log entry
6). -/
def State.reset : State := State.afterReset Config.testcfg false []

end Sys2Proof.Machine
end

