-- ==== Sys2Proof/Machine/Flags.lean ====
section
/-! DEFINITION. The condition bits, the saturating counters and the enumeration codes (10_state.md
rules R37, R38; 30_encoding.md rules R92 to R94; 60_exceptions.md rules R211, R212). The block has no
arithmetic flags (42_classifier.md rule R134). -/

namespace Sys2Proof.Machine

/-- The seven conditions (60_exceptions.md rule R211). -/
inductive Cond where
  | edgeFull
  | nvCeil
  | cmdUnknown
  | edgeMasked
  | fmtSat
  | badOp
  | nvSeq
  deriving DecidableEq, Repr

/-- The code of a condition, its bit index in COND (30_encoding.md rule R94). -/
def condCode : Cond → Nat
  | .edgeFull => 1
  | .nvCeil => 2
  | .cmdUnknown => 3
  | .edgeMasked => 4
  | .fmtSat => 5
  | .badOp => 6
  | .nvSeq => 7

/-- Whether the bit of a condition is set in COND. -/
def State.hasCond (s : State) (c : Cond) : Bool := s.cond.getLsbD (condCode c)

/-- COND with the bit of a condition set and every other bit kept. -/
def setCondBit (v : BitVec 8) (c : Cond) : BitVec 8 := v ||| (1#8 <<< condCode c)

/-- `raise X`: "sets COND bit X to 1 in the same step; a bit once set stays set until reset"
(60_exceptions.md rule R212). It never transfers control (00_scope.md rule R8). This is all there is of
taking an exception on this block (60_exceptions.md rules R210, R218). -/
def State.raise (c : Cond) (s : State) : State := { s with cond := setCondBit s.cond c }

/-- A refused operation "changes no state except that it raises BAD_OP" (30_encoding.md rule R90). -/
def State.refuse (s : State) : State := s.raise .badOp

/-- `sat_inc(R)` at CNT_W = 16 bits: add 1 below 2^CNT_W - 1, else stay (00_scope.md rule R8). -/
def satInc (r : Word) : Word := if r.toNat < 2 ^ 16 - 1 then r + 1 else r

/-- The code of a symbol (30_encoding.md rule R92). -/
def symbolCode : Symbol → BitVec 2
  | .short => 0
  | .low => 1
  | .high => 2
  | .long => 3

/-- The symbol of a code; the four codes are all the 2-bit values (30_encoding.md rule R92). -/
def symbolOfCode (c : BitVec 2) : Symbol :=
  match c.toNat with
  | 0 => .short
  | 1 => .low
  | 2 => .high
  | _ => .long

/-- The code of a session state (30_encoding.md rule R93). -/
def sessCode : Sess → BitVec 3
  | .init => 0
  | .collecting => 1
  | .draining => 2
  | .closing => 3
  | .idle => 4

end Sys2Proof.Machine
end

