-- ==== Sys2Proof/Machine/Operands.lean ====
section
/-! DEFINITION. Operand assembly (30_encoding.md rules R86, R87): `arg`, and the bits of it each
operation uses. -/

namespace Sys2Proof.Machine

/-- `arg`: the immediate when R = 0, the current value of RES when R = 1; "nothing is sign-extended,
scaled or shifted" (rule R86). -/
def argOf : Operand → State → Word
  | .imm v, _ => v
  | .res, s => s.res

/-- `trunc_TICK_W`: a value modulo 2^TICK_W (00_scope.md rule R8). At TICK_W = 16 it changes nothing
(30_encoding.md rule R87). -/
def truncTick (c : Config) (v : Word) : Word := BitVec.ofNat 16 (v.toNat % 2 ^ c.tickW)

/-- `arg[TICK_W-1:0]`, the operand of DELTA, CLASSIFY and RECORD (rule R87). -/
def tickArg (o : Operand) (s : State) : Word := truncTick s.cfg (argOf o s)

/-- `arg[7:0]`, the byte of a WBYTE and the data of an NV.LOAD (rule R87). -/
def byteArg (o : Operand) (s : State) : Byte := (argOf o s).extractLsb' 0 8

/-- `arg[15:8]`, the address of an NV.LOAD (rule R87). -/
def addrArg (o : Operand) (s : State) : Byte := (argOf o s).extractLsb' 8 8

/-- `arg[CUR_W-1:0]`, the cursor value of a SEEK (rule R87). -/
def cursorArg (o : Operand) (s : State) : Cursor := (argOf o s).extractLsb' 0 9

/-- `RES[1:0]`, the symbol code of a DEC.R (rule R87). -/
def resSymbol (s : State) : Symbol := symbolOfCode (s.res.extractLsb' 0 2)

end Sys2Proof.Machine
end

