-- ==== Sys2Proof/Machine/Ops.lean ====
section
/-! DEFINITION. The shared operations: a memory as a sparse list in one canonical form, the accesses to
TS and NV (20_memory.md rules R60 to R62), the completion of a step, and the sequencer's list. There is
no exception entry to model beyond `State.raise` (Flags.lean): "Taking an event saves nothing, changes
no mode and no mask, and goes to no address" and nothing returns (60_exceptions.md rules R218, R219). -/

namespace Sys2Proof

/-- The value an address holds, `none` where nothing is listed. Elements are read whole
(20_memory.md rule R70). -/
def Memory.read? {w : Nat} : List (Nat × BitVec w) → Nat → Option (BitVec w)
  | [], _ => none
  | (k, v) :: m, a => if k = a then some v else Memory.read? m a

/-- Replace the value at an address, keeping the addresses strictly rising. Elements are written whole
(20_memory.md rule R70). -/
def Memory.write {w : Nat} : List (Nat × BitVec w) → Nat → BitVec w → List (Nat × BitVec w)
  | [], a, v => [(a, v)]
  | (k, u) :: m, a, v =>
    if a < k then (a, v) :: (k, u) :: m
    else if a = k then (a, v) :: m
    else (k, u) :: Memory.write m a v

/-- The addresses are strictly rising, from `lo` on, and below `size`. -/
def Memory.wfFrom {w : Nat} (size : Nat) : Nat → List (Nat × BitVec w) → Bool
  | _, [] => true
  | lo, (k, _) :: m => decide (lo ≤ k) && decide (k < size) && Memory.wfFrom size (k + 1) m

/-- The canonical form of a memory of `size` elements. An unlisted address holds no value, which no
listed entry equals, so equal memories are equal lists. -/
def Memory.wf {w : Nat} (size : Nat) (m : List (Nat × BitVec w)) : Bool := Memory.wfFrom size 0 m

namespace Machine

/-- Entry `i` of TS. An entry that was never written is a free value (93_implementation_defined.md U1;
log entry 10). -/
def State.tsRead (s : State) (i : Nat) : Word :=
  (Memory.read? s.ts i).getD (Config.tsUnwritten i)

/-- The stored byte at address `a` of NV. A byte nothing wrote is a free value, an arbitrary function of
the address (93_implementation_defined.md U3; log entry 9). -/
def State.nvRead (s : State) (a : Nat) : Byte :=
  (Memory.read? s.nv a).getD (Config.nvInitial a)

/-- `TS[WR_IDX] <- TICK; WR_IDX <- WR_IDX + 1` in one step (41_edge_queue.md rule R115, 20_memory.md
rules R61, R70). -/
def State.tsAppend (s : State) : State :=
  { s with ts := Memory.write s.ts s.wrIdx.toNat s.tick, wrIdx := s.wrIdx + 1 }

/-- `NV[NV_ADDR] <- NV_DATA`: the byte is replaced whole (44_recorder.md rule R160). -/
def State.nvProgram (s : State) : State :=
  { s with nv := Memory.write s.nv s.nvAddr.toNat s.nvData }

/-- Whether a timestamp is pending: RD_IDX < WR_IDX (41_edge_queue.md rules R116 to R118). -/
def State.pending (s : State) : Bool := decide (s.rdIdx.toNat < s.wrIdx.toNat)

/-- Put steps in front of what SEQ still has to do (10_state.md rule R33, 30_encoding.md rule R99). -/
def State.pushSeq (ms : List Micro) (s : State) : State := { s with ustep := ms ++ s.ustep }

/-- Whether SEQ is between two operations: USTEP is empty (10_state.md rule R33). -/
def State.seqIdle (s : State) : Bool := s.ustep.isEmpty

/-- A run is over: SESS = IDLE and NV_BUSY = 0 (70_reset_and_hazards.md rule R244). -/
def State.done (s : State) : Bool := decide (s.sess = .idle) && !s.nvBusy

end Machine

end Sys2Proof
end

