-- ==== Sys2Proof/Machine/Classifier.lean ====
section
/-! DEFINITION. Pulse duration and Pulse Classifier: DELTA and CLASSIFY (42_classifier.md). -/

namespace Sys2Proof.Machine

/-- DELTA, rule R130: the modular difference to the previous timestamp, which the operand then becomes.
The subtraction sees the old PREV_TS. -/
def execDelta (t : Operand) (s : State) : Result :=
  .next { s with
    res := truncTick s.cfg (tickArg t s - s.prevTs)
    prevTs := tickArg t s
    prevValid := true }

/-- The classifier, a pure function of the duration; a boundary value resolves to the lower class (rule
R131). -/
def classifyDuration (d : Word) : Symbol :=
  if d.toNat ≤ tShort then .short
  else if d.toNat ≤ tHl then .low
  else if d.toNat ≤ tLong then .high
  else .long

/-- CLASSIFY, rule R131: the symbol's code, zero-extended, into RES. -/
def execClassify (d : Operand) (s : State) : Result :=
  .next { s with res := (symbolCode (classifyDuration (tickArg d s))).setWidth 16 }

end Sys2Proof.Machine
end

