-- ==== Sys2Proof/Machine/Decoder.lean ====
section
/-! DEFINITION. Command Decoder: DEC.SHORT, DEC.LOW, DEC.HIGH, DEC.LONG, DEC.R, and the known-command
lookup (43_decoder.md). -/

namespace Sys2Proof.Machine

/-- The publish action: CMD takes the completed word, FRAMES counts it, the accumulator is empty again
(rule R145). -/
def publish (acc' : Word) (s : State) : State :=
  { s with cmd := acc', frames := satInc s.frames, acc := 0, bitpos := 0 }

/-- `complete(acc', bp')`, rule R145. The value 16 exists only here. -/
def complete (acc' : Word) (bp' : Nat) (s : State) : State :=
  if bp' = wordW then publish acc' s else { s with acc := acc', bitpos := BitVec.ofNat 4 bp' }

/-- The transition on LOW (rule R141): the bit at BITPOS is left as it is. -/
def symbolLow (s : State) : State := complete s.acc (s.bitpos.toNat + 1) s

/-- The transition on HIGH (rule R142): the bit at BITPOS is set. -/
def symbolHigh (s : State) : State :=
  complete (s.acc ||| (1#16 <<< s.bitpos.toNat)) (s.bitpos.toNat + 1) s

/-- The transition on LONG (rule R143): a partial frame is thrown away. -/
def symbolLong (s : State) : State := { s with acc := 0, bitpos := 0 }

/-- The decoder's transition on a symbol (rules R140 to R143). -/
def symbolStep : Symbol → State → State
  | .short, s => s
  | .low, s => symbolLow s
  | .high, s => symbolHigh s
  | .long, s => symbolLong s

/-- DEC.SHORT, rule R140: no state change. -/
def execDecShort (s : State) : Result := .next (symbolStep .short s)

/-- DEC.LOW, rule R141. -/
def execDecLow (s : State) : Result := .next (symbolStep .low s)

/-- DEC.HIGH, rule R142. -/
def execDecHigh (s : State) : Result := .next (symbolStep .high s)

/-- DEC.LONG, rule R143. -/
def execDecLong (s : State) : Result := .next (symbolStep .long s)

/-- DEC.R, rule R144: the transition on the symbol whose code is RES[1:0]. -/
def execDecR (s : State) : Result := .next (symbolStep (resSymbol s) s)

/-- The label of a known command, the first key that matches in the order forward, rewind, play, stop;
`none` when no key matches (rule R147). -/
def knownLabel? (c : Config) (v : Word) : Option (List Byte) :=
  if v = c.keyFwd then some c.lblFwd
  else if v = c.keyRew then some c.lblRew
  else if v = c.keyPlay then some lblPlay
  else if v = c.keyStop then some c.lblStop
  else none

/-- `LABEL(c)`, rule R147. -/
def label (c : Config) (v : Word) : List Byte := (knownLabel? c v).getD c.lblUnk

end Sys2Proof.Machine
end

