-- ==== Sys2Proof/Machine/Queue.lean ====
section
/-! DEFINITION. Edge Capture Queue: EDGE, HASP, PEEK, ADV, MASK, UNMASK (41_edge_queue.md). -/

namespace Sys2Proof.Machine

/-- An edge that finds the buffer full is discarded and counted (rule R115, second branch). -/
def dropFull (s : State) : State :=
  { s.raise .edgeFull with edgeFullDrops := satInc s.edgeFullDrops }

/-- An edge that finds the producer masked is discarded and counted, never latched (rule R115, third
branch). -/
def dropMasked (s : State) : State :=
  { s.raise .edgeMasked with edgeMaskDrops := satInc s.edgeMaskDrops }

/-- EDGE, rule R115: the CE test comes first, then the capacity test. -/
def execEdge (s : State) : Result :=
  .next (if s.ce then
      if s.wrIdx.toNat < s.cfg.cap then s.tsAppend else dropFull s
    else dropMasked s)

/-- HASP, rule R116: `RES <- 1 if WR_IDX > RD_IDX else 0`. -/
def execHasp (s : State) : Result :=
  .next { s with res := if s.pending then 1 else 0 }

/-- PEEK, rule R117: the timestamp at the consume cursor; refused when nothing is pending. -/
def execPeek (s : State) : Result :=
  .next (if s.pending then { s with res := s.tsRead s.rdIdx.toNat } else s.refuse)

/-- ADV, rule R118: advance the consume cursor; refused when nothing is pending. -/
def execAdv (s : State) : Result :=
  .next (if s.pending then { s with rdIdx := s.rdIdx + 1 } else s.refuse)

/-- MASK, rule R119: `CE <- 0`. -/
def execMask (s : State) : Result :=
  .next { s with ce := false }

/-- UNMASK, rule R120: refused in CLOSING and IDLE, else `CE <- 1`. -/
def execUnmask (s : State) : Result :=
  .next (if s.sess = .closing ∨ s.sess = .idle then s.refuse else { s with ce := true })

end Sys2Proof.Machine
end

