-- ==== Sys2Proof/Machine/Recorder.lean ====
section
/-! DEFINITION. Non-volatile Recorder: the five protocol steps, the device's completion, the byte writer
with its cursor, and the record writers (44_recorder.md). -/

namespace Sys2Proof.Machine

/-! ### The device's write-control protocol -/

/-- NV.WAIT, rule R155: "hold until NV_BUSY = 0". While the device is busy SEQ's position stays in front
of the wait, so SEQ (and in STEP mode the host with it) does not get past it; with NV_BUSY = 0 it
completes with no state change. -/
def execNvWait (s : State) : Result :=
  .next (if s.nvBusy then s.pushSeq [.op .nvWait] else s)

/-- NV.MODE, rule R156: select byte-programming mode. -/
def execNvMode (s : State) : Result :=
  .next (if s.nvBusy then s.raise .nvSeq else { s with nvMode := true })

/-- NV.LOAD, rule R157: load the address and data registers, which are frozen during a write. -/
def execNvLoad (ad : Operand) (s : State) : Result :=
  .next (if s.nvBusy then s.raise .nvSeq
    else { s with nvAddr := addrArg ad s, nvData := byteArg ad s })

/-- NV.ARM, rule R158: arm write-enable. -/
def execNvArm (s : State) : Result :=
  .next (if s.nvBusy then s.raise .nvSeq else { s with nvArm := true })

/-- NV.COMMIT, rule R159: start programming when idle, armed and in byte-programming mode; otherwise
disarm and raise NV_SEQ. -/
def execNvCommit (s : State) : Result :=
  .next (if !s.nvBusy && s.nvArm && s.nvMode then { s with nvBusy := true, nvArm := false }
    else { s.raise .nvSeq with nvArm := false })

/-- NVDONE, rule R160: the device reports completion. It is enabled only when NV_BUSY = 1; a turn given
to the idle device passes (log entry 3). -/
def execNvdone (s : State) : Result :=
  .next (if s.nvBusy then { s.nvProgram with nvBusy := false } else s)

/-! ### The byte writer and the cursor -/

/-- The steps of a WBYTE after its ceiling test: the protocol steps (a) to (e) for byte `b` at address
`a`, then the cursor's increment (rule R161). -/
def byteWrite (a b : Byte) : List Micro :=
  [.op .nvWait, .op .nvMode, .op (.nvLoad (.imm (a ++ b))), .op .nvArm, .op .nvCommit, .bumpCursor]

/-- A byte past the ceiling is dropped and counted (rule R161, else branch). -/
def dropCeil (s : State) : State :=
  { s.raise .nvCeil with nvCeilDrops := satInc s.nvCeilDrops }

/-- WBYTE, rule R161. This step is the ceiling test, "the first step"; the others follow one by one. -/
def execWbyte (b : Operand) (s : State) : Result :=
  .next (if s.nvCursor.toNat < ceiling then
      s.pushSeq (byteWrite (s.nvCursor.extractLsb' 0 8) (byteArg b s))
    else dropCeil s)

/-- SEEK, rule R162: load the cursor with any CUR_W-bit value. -/
def execSeek (a : Operand) (s : State) : Result :=
  .next { s with nvCursor := cursorArg a s }

/-- WSTR: a WBYTE of every byte in order, first byte first (rule R163, 30_encoding.md rule R98). -/
def writeString (bytes : List Byte) : List Micro :=
  bytes.map fun b => .op (.wbyte (.imm (b.setWidth 16)))

/-! ### The record writers -/

/-- The ASCII byte of a decimal digit. -/
def digit (n : Nat) : Byte := BitVec.ofNat 8 (asciiZero + n)

/-- `FMT(d)`, rule R164: hundreds, tens, units, newline, of the duration saturated at 999. -/
def fmt (d : Word) : List Byte :=
  let h := if d.toNat ≤ fmtMax then d.toNat else fmtMax
  [digit (h / 100), digit (h / 10 % 10), digit (h % 10), newline]

/-- The condition of RECORD: FMT_SAT when the duration is above 999 (rule R165). -/
def noteSaturation (d : Word) (s : State) : State :=
  if fmtMax < d.toNat then s.raise .fmtSat else s

/-- RECORD, rule R165: raise FMT_SAT if the duration saturates, then four WBYTEs of FMT(d). -/
def execRecord (d : Operand) (s : State) : Result :=
  .next ((noteSaturation (tickArg d s) s).pushSeq (writeString (fmt (tickArg d s))))

/-- WHDR, rule R166: `WSTR HEADER`. -/
def execWhdr (s : State) : Result :=
  .next (s.pushSeq (writeString s.cfg.header))

/-- WTRL, rule R167: `WSTR TRAILER`. -/
def execWtrl (s : State) : Result :=
  .next (s.pushSeq (writeString s.cfg.trailer))

/-- The condition of WLBL: CMD_UNKNOWN when no key matched, "not when a key's label happens to equal
LBL_UNK" (rule R168). -/
def noteUnknown (s : State) : State :=
  if (knownLabel? s.cfg s.cmd).isNone then s.raise .cmdUnknown else s

/-- WLBL, rule R168: the label of CMD. -/
def execWlbl (s : State) : Result :=
  .next ((noteUnknown s).pushSeq (writeString (label s.cfg s.cmd)))

end Sys2Proof.Machine
end

