-- ==== Sys2Proof/Machine/Session.lean ====
section
/-! DEFINITION. Session Controller: S.INIT, S.POLL, S.CLOSE, S.IDLE, and the drain sequence
(45_session.md). The expansions are normative (30_encoding.md rule R99). -/

namespace Sys2Proof.Machine

/-- The expansion of S.INIT (rule R186). -/
def initSeq : List Micro :=
  [.op .whdr, .op .unmask, .setSess .collecting]

/-- S.INIT, rule R186: write the header, enable the producer, start collecting. -/
def execSInit (s : State) : Result :=
  .next (if s.sess = .init then s.pushSeq initSeq else s.refuse)

/-- What an S.POLL does when RD_IDX < CAP: HASP and the test of its answer (rule R187). -/
def pollSeq : List Micro :=
  [.op .hasp, .ifPending]

/-- The drain sequence (rule R188), its conditional part being `recordSeq`. -/
def drainSeq : List Micro :=
  [.op .mask, .op .peek, .op .adv, .savePv, .op (.delta .res), .ifPv, .op .unmask]

/-- The part of the drain that needs a previous timestamp (rule R188). -/
def recordSeq : List Micro :=
  [.op (.record .res), .op (.classify .res), .op .decR]

/-- S.POLL, rule R187: one iteration of the collect/drain loop. -/
def execSPoll (s : State) : Result :=
  .next (if s.sess = .collecting then
      if s.rdIdx.toNat = s.cfg.cap then { s with sess := .closing } else s.pushSeq pollSeq
    else s.refuse)

/-- The expansion of S.CLOSE (rule R189). -/
def closeSeq : List Micro :=
  [.op .mask, .op (.seek (.imm trailerAddr)), .op .wtrl, .op (.seek (.imm summaryAddr)), .op .wlbl,
    .setSess .idle]

/-- S.CLOSE, rule R189: the closing marker, the label, and the end of the session. -/
def execSClose (s : State) : Result :=
  .next (if s.sess = .closing then s.pushSeq closeSeq else s.refuse)

/-- S.IDLE, rule R190: one periodic no-op wait. -/
def execSIdle (s : State) : Result :=
  .next (if s.sess = .idle then s else s.refuse)

/-- The micro-steps that are no operation of the table, on the state whose USTEP holds what follows
them. -/
def savePvStep (s : State) : State := { s with pvT := s.prevValid }

/-- `if PV_T = 1 then …` (rule R188). -/
def ifPvStep (s : State) : State := if s.pvT then s.pushSeq recordSeq else s

/-- `if RES = 1 then SESS <- DRAINING; drain; SESS <- COLLECTING` (rule R187). -/
def ifPendingStep (s : State) : State :=
  if s.res = 1 then
    State.pushSeq (drainSeq ++ [.setSess .collecting]) { s with sess := .draining }
  else s

/-- `NV_CURSOR <- NV_CURSOR + 1` (44_recorder.md rule R161). -/
def bumpCursorStep (s : State) : State := { s with nvCursor := s.nvCursor + 1 }

/-- `SESS <- x` (00_scope.md rule R8: the format's `pc <- target`). -/
def setSessStep (x : Sess) (s : State) : State := { s with sess := x }

/-- The session operation AUTO mode issues in a session state (rule R191). DRAINING occurs only inside
an S.POLL, so nothing is issued there (log entry 16). -/
def autoOp : Sess → Option Instr
  | .init => some .sInit
  | .collecting => some .sPoll
  | .draining => none
  | .closing => some .sClose
  | .idle => some .sIdle

end Sys2Proof.Machine
end

