-- ==== Sys2Proof/Machine/Timer.lean ====
section
/-! DEFINITION. Clock/Timer Service: TICK and NOW (40_timer.md). -/

namespace Sys2Proof.Machine

/-- TICK, rule R110: `TICK <- (TICK + 1) mod 2^TICK_W`, whatever CE is and whatever SEQ is doing. -/
def execTick (s : State) : Result :=
  .next { s with tick := truncTick s.cfg (s.tick + 1) }

/-- NOW, rule R111: `RES <- zext_16(TICK)`. -/
def execNow (s : State) : Result :=
  .next { s with res := s.tick }

end Sys2Proof.Machine
end

