-- ==== Sys2Proof/Machine/Dispatch.lean ====
section
/-! DEFINITION. One arm per operation of the opcode table (30_encoding.md rule R88). -/

namespace Sys2Proof.Machine

def exec (i : Instr) (s : State) : Host.Outcome State Fault Refusal :=
  match i with
  | .tick => Sys2Proof.Machine.execTick s
  | .edge => Sys2Proof.Machine.execEdge s
  | .nvdone => Sys2Proof.Machine.execNvdone s
  | .now => Sys2Proof.Machine.execNow s
  | .hasp => Sys2Proof.Machine.execHasp s
  | .peek => Sys2Proof.Machine.execPeek s
  | .adv => Sys2Proof.Machine.execAdv s
  | .mask => Sys2Proof.Machine.execMask s
  | .unmask => Sys2Proof.Machine.execUnmask s
  | .delta t => Sys2Proof.Machine.execDelta t s
  | .classify d => Sys2Proof.Machine.execClassify d s
  | .decShort => Sys2Proof.Machine.execDecShort s
  | .decLow => Sys2Proof.Machine.execDecLow s
  | .decHigh => Sys2Proof.Machine.execDecHigh s
  | .decLong => Sys2Proof.Machine.execDecLong s
  | .decR => Sys2Proof.Machine.execDecR s
  | .wbyte b => Sys2Proof.Machine.execWbyte b s
  | .seek a => Sys2Proof.Machine.execSeek a s
  | .record d => Sys2Proof.Machine.execRecord d s
  | .whdr => Sys2Proof.Machine.execWhdr s
  | .wtrl => Sys2Proof.Machine.execWtrl s
  | .wlbl => Sys2Proof.Machine.execWlbl s
  | .nvWait => Sys2Proof.Machine.execNvWait s
  | .nvMode => Sys2Proof.Machine.execNvMode s
  | .nvLoad ad => Sys2Proof.Machine.execNvLoad ad s
  | .nvArm => Sys2Proof.Machine.execNvArm s
  | .nvCommit => Sys2Proof.Machine.execNvCommit s
  | .sInit => Sys2Proof.Machine.execSInit s
  | .sPoll => Sys2Proof.Machine.execSPoll s
  | .sClose => Sys2Proof.Machine.execSClose s
  | .sIdle => Sys2Proof.Machine.execSIdle s

end Sys2Proof.Machine
end

