-- ==== Sys2Proof/Machine/HostPort.lean ====
section
/-! DEFINITION. What HOST sees and does, but for the command port: the register map (10_state.md rules
R42, R43) and reset (70_reset_and_hazards.md rules R240, R241). -/

namespace Sys2Proof.Machine

/-- STATUS, field by field from bit 31 down to bit 0 (10_state.md rule R43). -/
def statusWord (s : State) : HostWord :=
  0#21 ++ BitVec.ofBool s.done ++ BitVec.ofBool s.pending ++ BitVec.ofBool s.stepMode ++
    BitVec.ofBool s.prevValid ++ BitVec.ofBool s.nvMode ++ BitVec.ofBool s.nvArm ++
    BitVec.ofBool s.nvBusy ++ BitVec.ofBool s.ce ++ sessCode s.sess

/-- The registers at word addresses 0x00 to 0x3F, zero-extended to 32 bits; OPW and the reserved
addresses read as 0 (10_state.md rule R42). -/
def registerWord (n : Nat) (s : State) : HostWord :=
  match n with
  | 0x00 => statusWord s
  | 0x01 => s.tick.setWidth 32
  | 0x02 => s.wrIdx.setWidth 32
  | 0x03 => s.rdIdx.setWidth 32
  | 0x04 => s.prevTs.setWidth 32
  | 0x05 => s.acc.setWidth 32
  | 0x06 => s.bitpos.setWidth 32
  | 0x07 => s.cmd.setWidth 32
  | 0x08 => s.frames.setWidth 32
  | 0x09 => s.nvCursor.setWidth 32
  | 0x0A => (s.nvAddr ++ s.nvData).setWidth 32
  | 0x0B => s.edgeFullDrops.setWidth 32
  | 0x0C => s.edgeMaskDrops.setWidth 32
  | 0x0D => s.nvCeilDrops.setWidth 32
  | 0x0E => s.res.setWidth 32
  | 0x0F => s.cond.setWidth 32
  | _ => 0

/-- TSWIN[i]: TS[i] if i < WR_IDX, else 0; the window has CAP entries and what follows it reads as 0
(10_state.md rule R42). -/
def tsWindow (i : Nat) (s : State) : HostWord :=
  if i < s.cfg.cap ∧ i < s.wrIdx.toNat then (s.tsRead i).setWidth 32 else 0

/-- NVWIN[a]: NV[a], but any value while the byte at `a` is being programmed (10_state.md rule R42,
20_memory.md rule R79); that value is free (93_implementation_defined.md U2; log entry 11). -/
def nvWindow (a : Nat) (s : State) : HostWord :=
  if s.nvBusy && decide (a = s.nvAddr.toNat) then (Config.inFlightByte s.freeCtr).setWidth 32
  else (s.nvRead a).setWidth 32

/-- What a host read of a word address returns (10_state.md rule R42). -/
def hostRead (a : HostAddr) (s : State) : HostWord :=
  if a.toNat < 0x40 then registerWord a.toNat s
  else if a.toNat < 0x100 then tsWindow (a.toNat - 0x40) s
  else nvWindow (a.toNat - 0x100) s

/-- A host read as a step: it changes no element of the block (10_state.md rule R44). The model keeps the
word it returned and counts the free value it may have drawn (log entry 13). -/
def hostReadStep (a : HostAddr) (s : State) : State :=
  { s with hostData := hostRead a s, freeCtr := s.freeCtr + 1 }

/-- The storage after a reset: kept, but for the byte at NV_ADDR when the reset arrives during a write,
which is left with any value (70_reset_and_hazards.md rules R240, R241; log entry 12). -/
def nvAfterReset (s : State) : List Host.Cell :=
  if s.nvBusy then Memory.write s.nv s.nvAddr.toNat (Config.cutByte s.freeCtr) else s.nv

/-- Reset (70_reset_and_hazards.md rule R240): every element of 10_state.md rule R20 but NV takes its
reset value, the strap is sampled, any operation in progress is abandoned. The configuration, the rest of
the agenda and the model's other fields are not the block's and stay. -/
def applyReset (strap : Bool) (s : State) : State :=
  { State.afterReset s.cfg strap (nvAfterReset s) with
    agenda := s.agenda
    rota := s.rota
    freeCtr := s.freeCtr + 1
    hostData := s.hostData }

end Sys2Proof.Machine
end

