-- ==== Sys2Proof/Machine/Sequencer.lean ====
section
/-! DEFINITION. Who moves next and what it does: SEQ's steps in the two sequencer modes (45_session.md
rules R191, R192, R194), the command port (30_encoding.md rule R95), and the turns of the agenda
(00_scope.md rules R4, R9; log entries 1 to 5). -/

namespace Sys2Proof.Machine

/-! ### SEQ -/

/-- One micro-step, on the state whose USTEP holds what follows it. An operation among them has the
meaning it has everywhere (30_encoding.md rule R99). -/
def runMicro (m : Micro) (s : State) : Result :=
  match m with
  | .op i => exec i s
  | .bumpCursor => .next (bumpCursorStep s)
  | .savePv => .next (savePvStep s)
  | .ifPv => .next (ifPvStep s)
  | .ifPending => .next (ifPendingStep s)
  | .setSess x => .next (setSessStep x s)

/-- Between two operations, AUTO mode issues the session operation of SESS (45_session.md rule R191) and
STEP mode issues nothing (rule R192). -/
def issueNext (s : State) : Result :=
  if s.stepMode then .next s
  else
    match autoOp s.sess with
    | some i => exec i s
    | none => .next s

/-- SEQ's turn: the next step of the macro-operation in progress, or the next operation. -/
def seqStep (s : State) : Result :=
  match s.ustep with
  | m :: rest => runMicro m { s with ustep := rest }
  | [] => issueNext s

/-! ### The command port -/

/-- A host write of `v` to OPW: refused as a whole in AUTO mode; in STEP mode a refused word raises
BAD_OP and any other word is executed (30_encoding.md rules R90, R95). -/
def portWrite (v : OpWord) (s : State) : Result :=
  if s.stepMode then
    match decodePort v with
    | some i => exec i s
    | none => .next s.refuse
  else .next s.refuse

/-- A host write: only OPW listens, a write anywhere else is ignored (10_state.md rule R42). -/
def hostWriteStep (a : HostAddr) (v : HostWord) (s : State) : Result :=
  if a = opwAddr then portWrite v s else .next s

/-- A bus access of HOST, as against reset. -/
def HostAct.isBus : HostAct → Bool
  | .read _ => true
  | .write _ _ => true
  | .reset _ => false

/-- In STEP mode "the bus write does not complete until the operation has completed", so while one is
in progress HOST has no further bus access (30_encoding.md rule R95; log entry 4). -/
def hostHeld (t : Turn) (s : State) : Bool :=
  match t with
  | .host a => a.isBus && s.stepMode && !s.seqIdle
  | _ => false

/-! ### Turns -/

/-- Which of a coinciding TICK and EDGE comes first (60_exceptions.md rule R216, TIE_ORDER); with `either`
a free value says (log entry 14). -/
def tickFirst (s : State) : Bool :=
  match s.cfg.tieOrder with
  | .tickFirst => true
  | .edgeFirst => false
  | .either => Config.tieTickFirst s.freeCtr

/-- A TICK and an EDGE at one instant are "two steps, one after the other" (60_exceptions.md rule R216):
the first is taken now, the second is the next turn. -/
def tieStep (s : State) : Result :=
  if tickFirst s then exec .tick { s with agenda := .pin :: s.agenda, freeCtr := s.freeCtr + 1 }
  else exec .edge { s with agenda := .timer :: s.agenda, freeCtr := s.freeCtr + 1 }

/-- The step of one turn, on the state whose agenda holds what follows it. -/
def takeTurn (t : Turn) (s : State) : Result :=
  match t with
  | .timer => exec .tick s
  | .pin => exec .edge s
  | .nvdev => exec .nvdone s
  | .seq => seqStep s
  | .host (.read a) => .next (hostReadStep a s)
  | .host (.write a v) => hostWriteStep a v s
  | .host (.reset strap) => .next (applyReset strap s)
  | .tickAndEdge => tieStep s

/-- The turn of the agent whom the rota names. -/
def Rota.turn : Rota → Turn
  | .seq => .seq
  | .timer => .timer
  | .nvdev => .nvdev

/-- Who comes next in the rota: each of the three agents has every third turn. -/
def Rota.next : Rota → Rota
  | .seq => .timer
  | .timer => .nvdev
  | .nvdev => .seq

/-- The turn when the agenda names nobody. SEQ, TIMER and NVDEV take turns, so that "TICK keeps happening; an
enabled NVDONE eventually happens; SEQ, when it has an enabled step, eventually takes it"
(70_reset_and_hazards.md rule R257; 40_timer.md rule R112). DESIGN CHOICE, log entry 2. -/
def quietTurn (s : State) : Turn × State := (s.rota.turn, { s with rota := s.rota.next })

/-- The next turn, and the state it is taken on. A held host access stays at the head of the agenda. -/
def nextTurn (s : State) : Turn × State :=
  match s.agenda with
  | [] => quietTurn s
  | t :: rest => if hostHeld t s then quietTurn s else (t, { s with agenda := rest })

/-- One step of the block: one agent's step (00_scope.md rule R9). -/
def advance (s : State) : Result := takeTurn (nextTurn s).1 (nextTurn s).2

/-! ### Where an operation word comes from -/

/-- The state in which the very next step runs the operation of word `w`: an event word is the turn of its
agent; any other word is a host write to the command port in STEP mode, with no operation in progress
(30_encoding.md rules R89, R95; log entry 5). -/
def placeWord (nbits w : Nat) (s : State) : State :=
  match decodeTableWord nbits w with
  | some .tick => { s with agenda := .timer :: s.agenda }
  | some .edge => { s with agenda := .pin :: s.agenda }
  | some .nvdone => { s with agenda := .nvdev :: s.agenda }
  | _ => { s with
      agenda := .host (.write opwAddr (BitVec.ofNat 32 w)) :: s.agenda
      stepMode := true
      ustep := [] }

end Sys2Proof.Machine
end

