-- ==== Sys2Proof/Machine/Step.lean ====
section
/-! DEFINITION. The step of the block, and where it finds its next operation. -/

namespace Sys2Proof.Machine

/-- One step (00_scope.md rule R9): the next agent moves, once. -/
def step (s : State) : Host.Outcome State Fault Refusal := advance s

/-- `s` with the operation of word `w` placed where `step` takes its next operation from (log entry 5). -/
def State.withFetchWord (s : State) (nbits w : Nat) : State := placeWord nbits w s

end Sys2Proof.Machine
end

