-- ==== Sys2Proof/Safety.lean ====
section
/-! DEFINITION. What the statements speak of: runs, the storage as it will settle, the invariant of
10_state.md rule R41, and the order of the device protocol in AUTO mode. -/

namespace Sys2Proof.Machine

/-! ### Runs -/

/-- `n` steps of the block. -/
def runSteps : Nat → State → Result
  | 0, s => .next s
  | n + 1, s =>
    match step s with
    | .next t => runSteps n t
    | .fault r => .fault r
    | .refused r => .refused r

/-- Some number of steps leads from `s` to `t`. From a state with an empty agenda these are steps in a
quiet environment: no edge and no host access comes, and SEQ, TIMER and NVDEV take turns (log entry 2). -/
def Reaches (s t : State) : Prop := ∃ n, runSteps n s = .next t

/-- Operations executed one after another, with no other step between them. -/
def runOps : List Instr → State → Result
  | [], s => .next s
  | i :: is, s =>
    match exec i s with
    | .next t => runOps is t
    | .fault r => .fault r
    | .refused r => .refused r

/-- A capture for every listed instant: TICK stands at the given count, then the pin moves. -/
def captureAll : List Word → State → Result
  | [], s => .next s
  | v :: vs, s =>
    match exec .edge { s with tick := v } with
    | .next t => captureAll vs t
    | .fault r => .fault r
    | .refused r => .refused r

/-- The operation that feeds a symbol to the decoder (43_decoder.md rules R140 to R143). -/
def decOf : Symbol → Instr
  | .short => .decShort
  | .low => .decLow
  | .high => .decHigh
  | .long => .decLong

/-- A symbol that decides a bit of the command word: LOW or HIGH (43_decoder.md rule R146 (b)). -/
def symbolIsBit : Symbol → Bool
  | .low => true
  | .high => true
  | _ => false

/-- The symbols whose bits are those of `k`, bit 0 first (43_decoder.md rule R146 (d)). -/
def keySymbols (k : Word) : List Symbol :=
  (List.range 16).map fun i => if k.getLsbD i then .high else .low

/-- Whether the next step is a reset. -/
def ResetsNext (s : State) : Prop := ∃ strap, (nextTurn s).1 = .host (.reset strap)

/-- NV[a] once the write in flight, if any, has completed (20_memory.md rule R79). -/
def State.settledNv (s : State) (a : Nat) : Byte :=
  if s.nvBusy && decide (a = s.nvAddr.toNat) then s.nvData else s.nvRead a

/-! ### The course of a session -/

/-- The arcs of the session state machine that change SESS (45_session.md rule R185). -/
def sessArc : Sess → Sess → Bool
  | .init, .collecting => true
  | .collecting, .draining => true
  | .draining, .collecting => true
  | .collecting, .closing => true
  | .closing, .idle => true
  | _, _ => false

/-- Whether what SEQ still has to do takes SESS along the arcs of 45_session.md rule R185 and leaves CE = 0
in IDLE (10_state.md rule R41 (g)), for the current SESS and CE. Between two operations SESS is not
DRAINING (45_session.md rule R191). -/
def sessPath (x : Sess) (ce : Bool) : List Micro → Bool
  | [] => decide (x ≠ .draining) && (decide (x ≠ .idle) || !ce)
  | .op i :: ms =>
    match i with
    | .mask => sessPath x false ms
    | .unmask => sessPath x (if x = .closing ∨ x = .idle then ce else true) ms
    | _ => (Micro.op i).wf && sessPath x ce ms
  | .setSess y :: ms =>
    sessArc x y && decide (x ≠ .collecting) && (decide (y ≠ .idle) || !ce) && sessPath y ce ms
  | .ifPending :: ms => decide (x = .collecting) && ms.isEmpty
  | .savePv :: ms => sessPath x ce ms
  | .ifPv :: ms => sessPath x ce ms
  | .bumpCursor :: ms => sessPath x ce ms

/-! ### The invariant -/

/-- The invariants of 10_state.md rule R41 with what they rest on: the parameters meet their constraints,
both memories are canonical, exactly the entries below WR_IDX are written, and every timestamp has TICK_W
bits. (c) of the rule is the width of BITPOS. -/
structure Inv (s : State) : Prop where
  cfg_wf : s.cfg.wf = true
  ts_wf : Memory.wf s.cfg.cap s.ts = true
  nv_wf : Memory.wf ceiling s.nv = true
  /-- (b): the entries below WR_IDX are written, the others hold no value (rule R22). -/
  ts_listed : ∀ i, (Memory.read? s.ts i).isSome = decide (i < s.wrIdx.toNat)
  ts_narrow : ∀ i v, Memory.read? s.ts i = some v → v.toNat < 2 ^ s.cfg.tickW
  tick_narrow : s.tick.toNat < 2 ^ s.cfg.tickW
  prev_narrow : s.prevTs.toNat < 2 ^ s.cfg.tickW
  /-- (a). -/
  rd_le_wr : s.rdIdx.toNat ≤ s.wrIdx.toNat
  wr_le_cap : s.wrIdx.toNat ≤ s.cfg.cap
  /-- (d). -/
  acc_clear : ∀ k, s.bitpos.toNat ≤ k → s.acc.getLsbD k = false
  /-- (e). -/
  arm_idle : s.nvArm = true → s.nvBusy = false
  /-- (f). -/
  full_count : s.edgeFullDrops = 0 ↔ s.hasCond .edgeFull = false
  mask_count : s.edgeMaskDrops = 0 ↔ s.hasCond .edgeMasked = false
  ceil_count : s.nvCeilDrops = 0 ↔ s.hasCond .nvCeil = false
  /-- Bit 0 of COND is always 0 (rule R37). -/
  cond_zero : s.cond.getLsbD 0 = false
  /-- (g), for IDLE. -/
  idle_masked : s.sess = .idle → s.ce = false
  /-- (g) for what SEQ still has to do, and the arcs of 45_session.md rule R185. That CE = 0 in CLOSING after
  the first step of S.CLOSE follows (Inv.closing_masked in Laws/Safety.lean). -/
  path : sessPath s.sess s.ce s.ustep = true

/-! ### The device protocol in AUTO mode -/

/-- The five protocol steps of 44_recorder.md rules R155 to R159. -/
def isProtocol : Instr → Bool
  | .nvWait => true
  | .nvMode => true
  | .nvLoad _ => true
  | .nvArm => true
  | .nvCommit => true
  | _ => false

/-- No protocol step stands in the list. -/
def noProtocol (ms : List Micro) : Bool :=
  ms.all fun m =>
    match m with
    | .op i => !isProtocol i
    | _ => true

/-- The protocol steps still to run are the rest of one byte write, in the order (a) to (e), and the device
is as the steps before them left it (44_recorder.md rules R161, R169). -/
def protocolInOrder (busy mode arm : Bool) : List Micro → Bool
  | .op .nvWait :: .op .nvMode :: .op (.nvLoad _) :: .op .nvArm :: .op .nvCommit :: ms => noProtocol ms
  | .op .nvMode :: .op (.nvLoad _) :: .op .nvArm :: .op .nvCommit :: ms => !busy && noProtocol ms
  | .op (.nvLoad _) :: .op .nvArm :: .op .nvCommit :: ms => !busy && mode && noProtocol ms
  | .op .nvArm :: .op .nvCommit :: ms => !busy && mode && noProtocol ms
  | .op .nvCommit :: ms => !busy && mode && arm && noProtocol ms
  | ms => noProtocol ms

/-- The course of the protocol in AUTO mode, and no protocol error so far. -/
structure AutoInv (s : State) : Prop where
  auto : s.stepMode = false
  order : protocolInOrder s.nvBusy s.nvMode s.nvArm s.ustep = true
  clean : s.hasCond .nvSeq = false

end Sys2Proof.Machine
end

