-- ==== Sys2Proof/Certificates/Slice0/Obligations.lean ====
section
/-! DEFINITION. The statements for the provers, from the numbered rules of spec/. A statement about an
operation says that it answers a next state (the block has no faults, 60_exceptions.md rule R210) and
names every element that may change: `t = { s with x := t.x }` says that every other element of `t` is that
of `s`, both memories, USTEP and the agenda among them. -/

open Sys2Proof Sys2Proof.Machine

/-! ### Encoding -/

/-- 30_encoding.md rule R88 and the words 95_test_vectors.md 2.7 writes out: a few operation words decode
to the operation they stand for, and the reserved ones are refused. -/
def Obligations.WrittenOutWordsDecode : Prop :=
  decode 0x00010000#32 = some .tick ∧ decode 0x00210000#32 = some .peek ∧
  decode 0x0021BEEF#32 = some .peek ∧ decode 0x0121BEEF#32 = some .peek ∧
  decode 0x0030008C#32 = some (.delta (.imm 140)) ∧ decode 0x01300000#32 = some (.delta .res) ∧
  decode 0x00400002#32 = some .decHigh ∧ decode 0x0040FFFE#32 = some .decHigh ∧
  decode 0x01400002#32 = some .decR ∧ decode 0x005A0C30#32 = some (.nvLoad (.imm 0x0C30)) ∧
  decode 0x005100FD#32 = some (.seek (.imm 253)) ∧ decode 0x00620000#32 = some .sClose ∧
  decode 0x02210000#32 = none ∧ decode 0x80000000#32 = none ∧ decode 0x00000000#32 = none ∧
  decode 0x00110000#32 = none ∧ decode 0x00560000#32 = none ∧ decodePort 0x00020000#32 = none

/-- 30_encoding.md rules R85 and R88: decoding the word of any operation, with its operand at any value,
gives the operation back. -/
def Obligations.DecodeInvertsEncode : Prop :=
  ∀ i : Instr, decode (encode i) = some i

/-- 30_encoding.md rule R91: a word decodes to an operation of the row of spec/opcode_table.json that it
matches, and to nothing when it matches none. -/
def Obligations.DecodeIsTheOpcodeTable : Prop :=
  ∀ w : OpWord, (decode w).map Instr.row = opcodeTable.find? (fun row => row.matches w)

/-- spec/opcode_table.json: no word matches two rows. -/
def Obligations.OpcodeRowsNeverOverlap : Prop :=
  ∀ r₁ ∈ opcodeTable, ∀ r₂ ∈ opcodeTable, ∀ w : OpWord,
    r₁.matches w = true → r₂.matches w = true → r₁ = r₂

/-- 30_encoding.md rules R89, R90, R91: the command port accepts exactly the words with Z = 0 whose opcode
is that of an operation of SEQ, whatever their R and imm. -/
def Obligations.PortAcceptsExactlySeqOpcodes : Prop :=
  ∀ w : OpWord, (decodePort w).isSome = true ↔
    OpWord.z w = 0#7 ∧ (OpWord.op w).toNat ∈
      [0x10, 0x20, 0x21, 0x22, 0x23, 0x24, 0x30, 0x31, 0x40] ++ [0x50, 0x51, 0x52, 0x53, 0x54, 0x55] ++
        [0x58, 0x59, 0x5A, 0x5B, 0x5C, 0x60, 0x61, 0x62, 0x63]

/-- 30_encoding.md rule R86 with the bits of rule R87: `arg` is imm or RES, and each operation's operand is
the field of `arg` the rule names. -/
def Obligations.OperandIsTheNamedFieldOfArg : Prop :=
  (∀ (r : Bool) (op : BitVec 8) (imm : Word) (s : State),
    argOf (OpWord.operand (OpWord.make r op imm)) s = if r then s.res else imm) ∧
  ∀ (o : Operand) (s : State), s.cfg.tickW ≤ 16 →
    (tickArg o s).toNat = (argOf o s).toNat % 2 ^ s.cfg.tickW ∧
    (byteArg o s).toNat = (argOf o s).toNat % 256 ∧
    (addrArg o s).toNat = (argOf o s).toNat / 256 ∧
    (cursorArg o s).toNat = (argOf o s).toNat % 512 ∧
    (symbolCode (resSymbol s)).toNat = s.res.toNat % 4

/-! ### Clock/Timer Service and Edge Capture Queue -/

/-- 40_timer.md rule R110: TICK counts modulo 2^TICK_W, whatever else is going on, and writes no other state;
its word is not accepted on the command port. -/
def Obligations.TickCountsModulo : Prop :=
  encode .tick = 0x00010000#32 ∧ decodePort 0x00010000#32 = none ∧
  ∀ s : State, s.cfg.wf = true → ∃ t, exec .tick s = .next t ∧
    t.tick.toNat = (s.tick.toNat + 1) % 2 ^ s.cfg.tickW ∧ t = { s with tick := t.tick }

/-- 40_timer.md rule R111 and 41_edge_queue.md rule R116: NOW and HASP write RES and nothing else. -/
def Obligations.NowAndHaspWriteOnlyRes : Prop :=
  encode .now = 0x00100000#32 ∧ encode .hasp = 0x00200000#32 ∧
  ∀ s : State,
    (∃ t, exec .now s = .next t ∧ t.res.toNat = s.tick.toNat ∧ t = { s with res := t.res }) ∧
    ∃ t, exec .hasp s = .next t ∧
      t.res.toNat = (if s.rdIdx.toNat < s.wrIdx.toNat then 1 else 0) ∧ t = { s with res := t.res }

/-- 41_edge_queue.md rule R115: the three branches of EDGE, the CE test first, with what each changes; its word
is not accepted on the command port. -/
def Obligations.EdgeAppendsOrDrops : Prop :=
  encode .edge = 0x00020000#32 ∧ decodePort 0x00020000#32 = none ∧
  ∀ s : State, s.cfg.wf = true → ∃ t, exec .edge s = .next t ∧
    (s.ce = true → s.wrIdx.toNat < s.cfg.cap →
      t.tsRead s.wrIdx.toNat = s.tick ∧ (∀ i, i ≠ s.wrIdx.toNat → t.tsRead i = s.tsRead i) ∧
      t.wrIdx.toNat = s.wrIdx.toNat + 1 ∧ t = { s with ts := t.ts, wrIdx := t.wrIdx }) ∧
    (s.ce = true → s.cfg.cap ≤ s.wrIdx.toNat →
      t.edgeFullDrops.toNat = min (s.edgeFullDrops.toNat + 1) 65535 ∧ t.cond = s.cond ||| 0x02#8 ∧
      t = { s with edgeFullDrops := t.edgeFullDrops, cond := t.cond }) ∧
    (s.ce = false →
      t.edgeMaskDrops.toNat = min (s.edgeMaskDrops.toNat + 1) 65535 ∧ t.cond = s.cond ||| 0x10#8 ∧
      t = { s with edgeMaskDrops := t.edgeMaskDrops, cond := t.cond })

/-- 41_edge_queue.md rule R117: PEEK reads the timestamp at the consume cursor without moving it; with
nothing pending it is refused. -/
def Obligations.PeekReadsAtTheCursor : Prop :=
  encode .peek = 0x00210000#32 ∧
  ∀ s : State, ∃ t, exec .peek s = .next t ∧
    (s.rdIdx.toNat < s.wrIdx.toNat →
      t.res = s.tsRead s.rdIdx.toNat ∧ t = { s with res := t.res }) ∧
    (s.wrIdx.toNat ≤ s.rdIdx.toNat → t = { s with cond := s.cond ||| 0x40#8 })

/-- 41_edge_queue.md rule R118: ADV moves the consume cursor by one; with nothing pending it is refused. -/
def Obligations.AdvMovesTheCursor : Prop :=
  encode .adv = 0x00220000#32 ∧
  ∀ s : State, ∃ t, exec .adv s = .next t ∧
    (s.rdIdx.toNat < s.wrIdx.toNat →
      t.rdIdx.toNat = s.rdIdx.toNat + 1 ∧ t = { s with rdIdx := t.rdIdx }) ∧
    (s.wrIdx.toNat ≤ s.rdIdx.toNat → t = { s with cond := s.cond ||| 0x40#8 })

/-- 41_edge_queue.md rules R119 and R120: MASK clears CE; UNMASK sets it, but is refused in CLOSING and IDLE.
-/
def Obligations.MaskAndUnmaskMoveCE : Prop :=
  encode .mask = 0x00230000#32 ∧ encode .unmask = 0x00240000#32 ∧
  ∀ s : State,
    (∃ t, exec .mask s = .next t ∧ t = { s with ce := false }) ∧
    ∃ t, exec .unmask s = .next t ∧
      (s.sess = .init ∨ s.sess = .collecting ∨ s.sess = .draining → t = { s with ce := true }) ∧
      (s.sess = .closing ∨ s.sess = .idle → t = { s with cond := s.cond ||| 0x40#8 })

/-- 41_edge_queue.md rule R121: n captures from an empty buffer leave min(n, CAP) entries, the first ones in
arrival order, and count the excess. -/
def Obligations.BackpressureKeepsTheFirstEntries : Prop :=
  ∀ (vs : List Word) (s : State), s.cfg.wf = true → s.ce = true → s.wrIdx = 0 → s.edgeFullDrops = 0 →
    ∃ t, captureAll vs s = .next t ∧
      t.wrIdx.toNat = min vs.length s.cfg.cap ∧
      (∀ i (h : i < vs.length), i < s.cfg.cap → t.tsRead i = vs[i]) ∧
      t.edgeFullDrops.toNat = min (vs.length - s.cfg.cap) 65535 ∧
      t = { s with
        tick := t.tick, ts := t.ts, wrIdx := t.wrIdx, edgeFullDrops := t.edgeFullDrops, cond := t.cond }

/-! ### Pulse duration and classifier -/

/-- 42_classifier.md rule R130: DELTA is the modular difference to the old PREV_TS, and its operand is the
new one. -/
def Obligations.DeltaSubtractsThePrevious : Prop :=
  (∀ v, encode (.delta (.imm v)) = 0x00300000#32 ||| v.setWidth 32) ∧
  encode (.delta .res) = 0x01300000#32 ∧
  ∀ (o : Operand) (s : State), s.cfg.wf = true → ∃ t, exec (.delta o) s = .next t ∧
    (t.res.toNat : Int) = ((tickArg o s).toNat - s.prevTs.toNat : Int) % 2 ^ s.cfg.tickW ∧
    t.prevTs = tickArg o s ∧ t.prevValid = true ∧
    t = { s with res := t.res, prevTs := t.prevTs, prevValid := t.prevValid }

/-- 42_classifier.md rule R133: for a timestamp n ticks after the previous one, DELTA gives n itself when fewer
than 2^TICK_W ticks separate them, also across a wrap of TICK, and n modulo 2^TICK_W otherwise. -/
def Obligations.DurationSurvivesOneWrap : Prop :=
  ∀ (s : State) (n : Nat), s.cfg.wf = true →
    ∃ t, exec (.delta (.imm (BitVec.ofNat 16 ((s.prevTs.toNat + n) % 2 ^ s.cfg.tickW)))) s = .next t ∧
      (n < 2 ^ s.cfg.tickW → t.res.toNat = n) ∧
      (2 ^ s.cfg.tickW ≤ n → t.res.toNat = n % 2 ^ s.cfg.tickW)

/-- 42_classifier.md rule R131: the code of the class, a boundary value in the lower class, into RES and
nowhere else. -/
def Obligations.ClassifyComparesWithThresholds : Prop :=
  (∀ v, encode (.classify (.imm v)) = 0x00310000#32 ||| v.setWidth 32) ∧
  encode (.classify .res) = 0x01310000#32 ∧
  ∀ (o : Operand) (s : State), ∃ t, exec (.classify o) s = .next t ∧
    ((tickArg o s).toNat ≤ 5 → t.res = 0) ∧
    (5 < (tickArg o s).toNat → (tickArg o s).toNat ≤ 15 → t.res = 1) ∧
    (15 < (tickArg o s).toNat → (tickArg o s).toNat ≤ 30 → t.res = 2) ∧
    (30 < (tickArg o s).toNat → t.res = 3) ∧
    t = { s with res := t.res }

/-- 42_classifier.md rule R132: in the order SHORT < LOW < HIGH < LONG the class never falls as the duration
grows, for CLASSIFY itself. -/
def Obligations.LongerDurationsNeverRankLower : Prop :=
  ∀ (o₁ o₂ : Operand) (s t₁ t₂ : State), (tickArg o₁ s).toNat < (tickArg o₂ s).toNat →
    exec (.classify o₁) s = .next t₁ → exec (.classify o₂) s = .next t₂ →
    t₁.res.toNat ≤ t₂.res.toNat

/-! ### Command Decoder -/

/-- 43_decoder.md rules R140 to R143 with the completion of R145: what each fixed DEC operation does to
(ACC, BITPOS), CMD and FRAMES, and that it touches nothing else. -/
def Obligations.DecoderTransitions : Prop :=
  encode .decShort = 0x00400000#32 ∧ encode .decLow = 0x00400001#32 ∧
  encode .decHigh = 0x00400002#32 ∧ encode .decLong = 0x00400003#32 ∧
  ∀ s : State,
    exec .decShort s = .next s ∧
    (∃ t, exec .decLow s = .next t ∧
      (s.bitpos.toNat < 15 →
        t.bitpos.toNat = s.bitpos.toNat + 1 ∧ t = { s with bitpos := t.bitpos }) ∧
      (s.bitpos.toNat = 15 →
        t.frames.toNat = min (s.frames.toNat + 1) 65535 ∧
        t = { s with cmd := s.acc, frames := t.frames, acc := 0, bitpos := 0 })) ∧
    (∃ t, exec .decHigh s = .next t ∧
      (s.bitpos.toNat < 15 →
        (∀ k, k < 16 → t.acc.getLsbD k = (s.acc.getLsbD k || k == s.bitpos.toNat)) ∧
        t.bitpos.toNat = s.bitpos.toNat + 1 ∧ t = { s with acc := t.acc, bitpos := t.bitpos }) ∧
      (s.bitpos.toNat = 15 →
        t.cmd = s.acc ||| 0x8000#16 ∧ t.frames.toNat = min (s.frames.toNat + 1) 65535 ∧
        t = { s with cmd := t.cmd, frames := t.frames, acc := 0, bitpos := 0 })) ∧
    ∃ t, exec .decLong s = .next t ∧ t = { s with acc := 0, bitpos := 0 }

/-- 43_decoder.md rule R144: DEC.R is the fixed operation of the symbol code RES[1:0]; RES[15:2] is ignored.
-/
def Obligations.DecRFollowsTheSymbolInRes : Prop :=
  encode .decR = 0x01400000#32 ∧
  ∀ s : State,
    (s.res.toNat % 4 = 0 → exec .decR s = .next s) ∧
    (s.res.toNat % 4 = 1 → ∃ t, exec .decR s = .next t ∧ exec .decLow s = .next t) ∧
    (s.res.toNat % 4 = 2 → ∃ t, exec .decR s = .next t ∧ exec .decHigh s = .next t) ∧
    (s.res.toNat % 4 = 3 → exec .decR s = .next { s with acc := 0, bitpos := 0 })

/-- 43_decoder.md rule R146 (b): as long as no LONG comes and FRAMES does not saturate, the LOW and
HIGH symbols consumed are counted exactly by BITPOS and sixteen times FRAMES, and SHORT symbols are not. -/
def Obligations.OnePublishPerSixteenBits : Prop :=
  ∀ (syms : List Symbol) (s : State), (∀ x ∈ syms, x ≠ Symbol.long) →
    s.frames.toNat + syms.length < 65535 →
    ∃ t, runOps (syms.map decOf) s = .next t ∧
      t.bitpos.toNat + 16 * t.frames.toNat =
        s.bitpos.toNat + 16 * s.frames.toNat + (syms.filter symbolIsBit).length ∧
      t = { s with acc := t.acc, bitpos := t.bitpos, cmd := t.cmd, frames := t.frames }

/-- 43_decoder.md rule R146 (d): one LONG and then the sixteen symbols of a word K publish K, whatever frame
was under way. -/
def Obligations.LongThenSixteenSymbolsPublishTheWord : Prop :=
  ∀ (k : Word) (s : State), ∃ t,
    runOps (.decLong :: (keySymbols k).map decOf) s = .next t ∧
    t.cmd = k ∧ t.acc = 0 ∧ t.bitpos = 0 ∧ t.frames.toNat = min (s.frames.toNat + 1) 65535 ∧
    t = { s with acc := t.acc, bitpos := t.bitpos, cmd := t.cmd, frames := t.frames }

/-- 43_decoder.md rule R147: the first key that matches, in the order forward, rewind, play, stop. -/
def Obligations.LabelTakesTheFirstMatchingKey : Prop :=
  ∀ (c : Config) (v : Word),
    (v = c.keyFwd → label c v = c.lblFwd) ∧
    (v ≠ c.keyFwd → v = c.keyRew → label c v = c.lblRew) ∧
    (v ≠ c.keyFwd → v ≠ c.keyRew → v = c.keyPlay → label c v = [0x70, 0x6C, 0x79]) ∧
    (v ≠ c.keyFwd → v ≠ c.keyRew → v ≠ c.keyPlay → v = c.keyStop → label c v = c.lblStop) ∧
    (v ≠ c.keyFwd → v ≠ c.keyRew → v ≠ c.keyPlay → v ≠ c.keyStop → label c v = c.lblUnk)

/-! ### Non-volatile Recorder -/

/-- 44_recorder.md rule R155: NV.WAIT completes at once and changes nothing when the device is idle; while it
is busy SEQ's position stays in front of the wait and nothing else changes; NVDONE lifts the hold. That a held
wait is a step that puts itself back into USTEP is the model's way to hold (log entries 3 and 15). -/
def Obligations.WaitHoldsWhileBusy : Prop :=
  encode .nvWait = 0x00580000#32 ∧
  ∀ s : State,
    (s.nvBusy = false → exec .nvWait s = .next s) ∧
    (s.nvBusy = true → exec .nvWait s = .next { s with ustep := .op .nvWait :: s.ustep }) ∧
    ∃ t, exec .nvdone s = .next t ∧ exec .nvWait t = .next t

/-- 44_recorder.md rules R156 to R158: NV.MODE, NV.LOAD and NV.ARM act when the device is idle and only raise
NV_SEQ while it is busy; no operation takes the mode back, and only NV.COMMIT the arm. -/
def Obligations.ProtocolStepsActOnlyWhenIdle : Prop :=
  encode .nvMode = 0x00590000#32 ∧
  (∀ a b : Byte, encode (.nvLoad (.imm (a ++ b))) =
    0x005A0000#32 ||| (a.setWidth 32 <<< 8) ||| b.setWidth 32) ∧
  encode .nvArm = 0x005B0000#32 ∧
  ∀ s : State,
    (s.nvBusy = false →
      exec .nvMode s = .next { s with nvMode := true } ∧
      exec .nvArm s = .next { s with nvArm := true } ∧
      ∀ o, ∃ t, exec (.nvLoad o) s = .next t ∧
        t.nvAddr.toNat = (argOf o s).toNat / 256 ∧ t.nvData.toNat = (argOf o s).toNat % 256 ∧
        t = { s with nvAddr := t.nvAddr, nvData := t.nvData }) ∧
    (s.nvBusy = true →
      ∃ t, t = { s with cond := s.cond ||| 0x80#8 } ∧
        exec .nvMode s = .next t ∧ exec .nvArm s = .next t ∧ ∀ o, exec (.nvLoad o) s = .next t) ∧
    ∀ (i : Instr) (t : State), exec i s = .next t →
      (s.nvMode = true → t.nvMode = true) ∧ (i ≠ .nvCommit → s.nvArm = true → t.nvArm = true)

/-- 44_recorder.md rule R159: a commit starts the write when the device is idle, armed and in byte-programming
mode; any other commit disarms and raises NV_SEQ. -/
def Obligations.CommitNeedsArmAndMode : Prop :=
  encode .nvCommit = 0x005C0000#32 ∧
  ∀ s : State,
    (s.nvBusy = false ∧ s.nvArm = true ∧ s.nvMode = true →
      exec .nvCommit s = .next { s with nvBusy := true, nvArm := false }) ∧
    (s.nvBusy = true ∨ s.nvArm = false ∨ s.nvMode = false →
      exec .nvCommit s = .next { s with nvArm := false, cond := s.cond ||| 0x80#8 })

/-- 44_recorder.md rule R160: NVDONE writes NV_DATA at NV_ADDR and clears NV_BUSY; every other byte reads as
before. It has no effect when the device is not busy, which is the model's reading of "Enabled only when
NV_BUSY = 1" (log entry 3). -/
def Obligations.NvdoneProgramsOneByte : Prop :=
  encode .nvdone = 0x00030000#32 ∧ decodePort 0x00030000#32 = none ∧
  ∀ s : State,
    (s.nvBusy = true → ∃ t, exec .nvdone s = .next t ∧
      t.nvRead s.nvAddr.toNat = s.nvData ∧ (∀ a, a ≠ s.nvAddr.toNat → t.nvRead a = s.nvRead a) ∧
      t = { s with nv := t.nv, nvBusy := false }) ∧
    (s.nvBusy = false → exec .nvdone s = .next s)

/-- 44_recorder.md rule R161: WBYTE tests the ceiling; below it the five protocol steps for the cursor's
address and the operand's byte follow and then the cursor's increment, at or above it the byte is dropped and
counted. That the issuing step makes the test and leaves the rest in USTEP is the model's cut (log entry 15). -/
def Obligations.WbyteTestsTheCeilingFirst : Prop :=
  (∀ v, encode (.wbyte (.imm v)) = 0x00500000#32 ||| v.setWidth 32) ∧
  encode (.wbyte .res) = 0x01500000#32 ∧
  ∀ (o : Operand) (s : State), ∃ t, exec (.wbyte o) s = .next t ∧
    (s.nvCursor.toNat < 256 → ∃ ad : Word, ad.toNat = s.nvCursor.toNat * 256 + (argOf o s).toNat % 256 ∧
      t = { s with ustep := [.op .nvWait, .op .nvMode, .op (.nvLoad (.imm ad)), .op .nvArm, .op .nvCommit,
        .bumpCursor] ++ s.ustep }) ∧
    (256 ≤ s.nvCursor.toNat →
      t.nvCeilDrops.toNat = min (s.nvCeilDrops.toNat + 1) 65535 ∧ t.cond = s.cond ||| 0x04#8 ∧
      t = { s with nvCeilDrops := t.nvCeilDrops, cond := t.cond })

/-- 44_recorder.md rule R162: SEEK loads the cursor with any 9-bit value and changes nothing else. -/
def Obligations.SeekLoadsTheCursor : Prop :=
  (∀ v, encode (.seek (.imm v)) = 0x00510000#32 ||| v.setWidth 32) ∧
  encode (.seek .res) = 0x01510000#32 ∧
  ∀ (o : Operand) (s : State), ∃ t, exec (.seek o) s = .next t ∧
    t.nvCursor.toNat = (argOf o s).toNat % 512 ∧ t = { s with nvCursor := t.nvCursor }

/-- 44_recorder.md rule R164: FMT is three decimal digits, most significant first, and a newline; together they
are the duration saturated at 999. -/
def Obligations.FormatIsThreeDigitsAndNewline : Prop :=
  ∀ d : Word, ∃ h t u : Nat, h ≤ 9 ∧ t ≤ 9 ∧ u ≤ 9 ∧ 100 * h + 10 * t + u = min d.toNat 999 ∧
    (fmt d).map BitVec.toNat = [0x30 + h, 0x30 + t, 0x30 + u, 0x0A]

/-- 44_recorder.md rules R165 to R168: RECORD, WHDR, WTRL and WLBL raise what their rule says and leave exactly
the WBYTEs of their bytes to be run. That the issuing step raises the condition and fixes those WBYTEs in USTEP is
the model's cut (log entry 15). -/
def Obligations.RecordWritersQueueTheirBytes : Prop :=
  (∀ v, encode (.record (.imm v)) = 0x00520000#32 ||| v.setWidth 32) ∧
  encode (.record .res) = 0x01520000#32 ∧ encode .whdr = 0x00530000#32 ∧
  encode .wtrl = 0x00540000#32 ∧ encode .wlbl = 0x00550000#32 ∧
  ∀ s : State,
    (∀ o, ∃ t, exec (.record o) s = .next t ∧
      t.ustep = writeString (fmt (tickArg o s)) ++ s.ustep ∧
      t.cond = (if 999 < (tickArg o s).toNat then s.cond ||| 0x20#8 else s.cond) ∧
      t = { s with ustep := t.ustep, cond := t.cond }) ∧
    (∃ t, exec .whdr s = .next t ∧ t = { s with ustep := writeString s.cfg.header ++ s.ustep }) ∧
    (∃ t, exec .wtrl s = .next t ∧ t = { s with ustep := writeString s.cfg.trailer ++ s.ustep }) ∧
    ∃ t, exec .wlbl s = .next t ∧
      t.ustep = writeString (label s.cfg s.cmd) ++ s.ustep ∧
      t.cond = (if s.cmd = s.cfg.keyFwd ∨ s.cmd = s.cfg.keyRew ∨ s.cmd = s.cfg.keyPlay ∨
        s.cmd = s.cfg.keyStop then s.cond else s.cond ||| 0x08#8) ∧
      t = { s with ustep := t.ustep, cond := t.cond }

/-- 44_recorder.md rules R161 and R163: in a quiet environment the WBYTEs of N bytes write, in order from the
cursor, exactly the bytes that lie below the ceiling, drop and count the rest, and change no other byte. The quiet
environment, in which SEQ, TIMER and NVDEV take turns, is the model's choice (log entry 2). -/
def Obligations.WriteStringStopsAtTheCeiling : Prop :=
  ∀ (bs : List Byte) (rest : List Micro) (s : State),
    s.agenda = [] → s.ustep = writeString bs ++ rest →
    ∃ t, Reaches s t ∧ t.ustep = rest ∧
      t.nvCursor.toNat = s.nvCursor.toNat + min bs.length (256 - s.nvCursor.toNat) ∧
      (∀ j (h : j < bs.length), s.nvCursor.toNat + j < 256 →
        t.settledNv (s.nvCursor.toNat + j) = bs[j]) ∧
      (∀ a, a < s.nvCursor.toNat ∨ s.nvCursor.toNat + bs.length ≤ a → t.settledNv a = s.settledNv a) ∧
      t.nvCeilDrops.toNat =
        min (s.nvCeilDrops.toNat + (bs.length - (256 - s.nvCursor.toNat))) 65535 ∧
      t.cond = (if 256 - s.nvCursor.toNat < bs.length then s.cond ||| 0x04#8 else s.cond) ∧
      t = { s with
        tick := t.tick, rota := t.rota, ustep := rest, nvCursor := t.nvCursor, nvBusy := t.nvBusy,
        nvArm := t.nvArm, nvMode := t.nvMode,
        nvAddr := t.nvAddr, nvData := t.nvData, nv := t.nv, nvCeilDrops := t.nvCeilDrops, cond := t.cond }

/-! ### Session Controller -/

/-- 45_session.md rules R186, R187, R189, R190 with R188: each session operation, in the session state it
belongs to, leaves its expansion to be run (S.POLL closes the collection at RD_IDX = CAP; S.IDLE changes
nothing). That the issuing step makes the tests and leaves the rest in USTEP is the model's cut (log entry 15). -/
def Obligations.SessionOperationsQueueTheirExpansion : Prop :=
  encode .sInit = 0x00600000#32 ∧ encode .sPoll = 0x00610000#32 ∧ encode .sClose = 0x00620000#32 ∧
  encode .sIdle = 0x00630000#32 ∧
  ∀ s : State,
    (s.sess = .init → exec .sInit s =
      .next { s with ustep := [.op .whdr, .op .unmask, .setSess .collecting] ++ s.ustep }) ∧
    (s.sess = .collecting → s.rdIdx.toNat = s.cfg.cap → exec .sPoll s = .next { s with sess := .closing }) ∧
    (s.sess = .collecting → s.rdIdx.toNat ≠ s.cfg.cap → exec .sPoll s =
      .next { s with ustep := [.op .hasp, .ifPending] ++ s.ustep }) ∧
    (s.sess = .closing → exec .sClose s = .next { s with ustep :=
      [.op .mask, .op (.seek (.imm 253)), .op .wtrl, .op (.seek (.imm 250)), .op .wlbl, .setSess .idle] ++
        s.ustep }) ∧
    (s.sess = .idle → exec .sIdle s = .next s)

/-- 30_encoding.md rule R90, last case: a session operation in the wrong session state changes nothing but
BAD_OP. -/
def Obligations.SessionOperationsRefuseOtherStates : Prop :=
  ∀ s t : State, t = { s with cond := s.cond ||| 0x40#8 } →
    (s.sess ≠ .init → exec .sInit s = .next t) ∧ (s.sess ≠ .collecting → exec .sPoll s = .next t) ∧
    (s.sess ≠ .closing → exec .sClose s = .next t) ∧ (s.sess ≠ .idle → exec .sIdle s = .next t)

/-- 45_session.md rule R185: a step that is no reset moves SESS only along the arcs of the table, from every
state that meets the invariant (which speaks of USTEP as the model's list, log entry 15). -/
def Obligations.SessMovesOnlyAlongItsArcs : Prop :=
  ∀ s t : State, Inv s → ¬ ResetsNext s → step s = .next t →
    t.sess = s.sess ∨ sessArc s.sess t.sess = true

/-- 45_session.md rule R186 and 70_reset_and_hazards.md rule R243: from reset in AUTO mode, whatever the
configuration and the storage, a quiet environment leads to COLLECTING with the header at 0 to 11 (its last byte
perhaps still in flight) and the producer enabled. The quiet environment is the model's choice (log entry 2). -/
def Obligations.SessionStartsWithTheHeader : Prop :=
  ∀ (c : Config) (nv : List Host.Cell), c.wf = true →
    ∃ t, Reaches (State.afterReset c false nv) t ∧ t.sess = .collecting ∧ t.ustep = [] ∧ t.ce = true ∧
      t.nvCursor = 12 ∧ t.cond = 0 ∧ t.wrIdx = 0 ∧
      ∀ j (h : j < c.header.length), t.settledNv j = c.header[j]

/-- 45_session.md rules R187 and R188 with 70_reset_and_hazards.md rule R249: in a quiet environment an S.POLL with a
timestamp pending drains exactly one. The first timestamp of a session is only remembered; the duration of any
other is recorded, classified and decoded. The quiet environment is the model's choice (log entry 2), and so is
the step that issues the poll (log entry 15). -/
def Obligations.PollDrainsOneTimestamp : Prop :=
  ∀ (s : State) (d : Word), Inv s → s.agenda = [] → s.ustep = [] → s.sess = .collecting →
    s.rdIdx.toNat < s.wrIdx.toNat →
    (d.toNat : Int) = ((s.tsRead s.rdIdx.toNat).toNat - s.prevTs.toNat : Int) % 2 ^ s.cfg.tickW →
    ∃ u t, exec .sPoll s = .next u ∧ Reaches u t ∧ t.ustep = [] ∧ t.sess = .collecting ∧ t.ce = true ∧
      t.rdIdx.toNat = s.rdIdx.toNat + 1 ∧ t.prevTs = s.tsRead s.rdIdx.toNat ∧ t.prevValid = true ∧
      (s.prevValid = false →
        t.res = d ∧ (∀ a, t.settledNv a = s.settledNv a) ∧
        t = { s with
          tick := t.tick, rota := t.rota, rdIdx := t.rdIdx, prevTs := t.prevTs, prevValid := true, res := d,
          pvT := false, ce := true, nv := t.nv, nvBusy := t.nvBusy }) ∧
      (s.prevValid = true →
        t.res = (symbolCode (classifyDuration d)).setWidth 16 ∧
        (∀ j (h : j < (fmt d).length), s.nvCursor.toNat + j < 256 →
          t.settledNv (s.nvCursor.toNat + j) = (fmt d)[j]) ∧
        (∀ a, a < s.nvCursor.toNat ∨ s.nvCursor.toNat + 4 ≤ a → t.settledNv a = s.settledNv a) ∧
        t.nvCursor.toNat = s.nvCursor.toNat + min 4 (256 - s.nvCursor.toNat) ∧
        t.nvCeilDrops.toNat = min (s.nvCeilDrops.toNat + (4 - (256 - s.nvCursor.toNat))) 65535 ∧
        t.cond = (s.cond ||| (if 999 < d.toNat then 0x20#8 else 0#8)) |||
          (if 256 - s.nvCursor.toNat < 4 then 0x04#8 else 0#8) ∧
        (∃ v, exec (decOf (classifyDuration d)) s = .next v ∧
          t.acc = v.acc ∧ t.bitpos = v.bitpos ∧ t.cmd = v.cmd ∧ t.frames = v.frames) ∧
        t = { s with
          tick := t.tick, rota := t.rota, rdIdx := t.rdIdx, prevTs := t.prevTs, res := t.res, pvT := true,
          ce := true, acc := t.acc, bitpos := t.bitpos, cmd := t.cmd, frames := t.frames,
          nvCursor := t.nvCursor, nvBusy := t.nvBusy, nvArm := t.nvArm, nvMode := t.nvMode,
          nvAddr := t.nvAddr, nvData := t.nvData, nv := t.nv, nvCeilDrops := t.nvCeilDrops, cond := t.cond })

/-- 45_session.md rule R189 and 20_memory.md rule R73: in a quiet environment an S.CLOSE ends in IDLE with the
producer disabled, the marker at 253 to 255, the label of CMD at 250 to 252, every other byte as it was, and
CMD_UNKNOWN raised exactly when CMD is no key. The quiet environment is the model's choice (log entry 2), and so is
the step that issues the operation (log entry 15). -/
def Obligations.CloseWritesMarkerAndLabel : Prop :=
  ∀ s : State, s.cfg.wf = true → s.agenda = [] → s.ustep = [] → s.sess = .closing →
    ∃ u t, exec .sClose s = .next u ∧ Reaches u t ∧ t.sess = .idle ∧ t.ustep = [] ∧ t.ce = false ∧
      t.nvCursor = 253 ∧
      (∀ j (h : j < s.cfg.trailer.length), t.settledNv (253 + j) = s.cfg.trailer[j]) ∧
      (∀ j (h : j < (label s.cfg s.cmd).length), t.settledNv (250 + j) = (label s.cfg s.cmd)[j]) ∧
      (∀ a, a < 250 ∨ 256 ≤ a → t.settledNv a = s.settledNv a) ∧
      t.cond = (if s.cmd = s.cfg.keyFwd ∨ s.cmd = s.cfg.keyRew ∨ s.cmd = s.cfg.keyPlay ∨
        s.cmd = s.cfg.keyStop then s.cond else s.cond ||| 0x08#8) ∧
      t = { s with
        tick := t.tick, rota := t.rota, sess := .idle, ce := false, nvCursor := 253, nvBusy := t.nvBusy,
        nvArm := t.nvArm, nvMode := t.nvMode, nvAddr := t.nvAddr, nvData := t.nvData, nv := t.nv,
        cond := t.cond }

/-! ### Steps -/

/-- 60_exceptions.md rule R210: no step of the block, and no operation in any state, ends in a fault or in a
refusal of the model. -/
def Obligations.NothingEverStopsTheBlock : Prop :=
  (∀ (i : Instr) (s : State), ∃ t, exec i s = .next t) ∧ ∀ s : State, ∃ t, step s = .next t

/-- 30_encoding.md rule R95: in STEP mode, between two operations, a host write of a word to OPW runs the
operation the word decodes to, on the state with that turn taken off the agenda. That the step of the write is
itself the first step of the operation is the model's choice (log entry 21). -/
def Obligations.PortWriteRunsTheDecodedOperation : Prop :=
  ∀ (s : State) (w : OpWord) (i : Instr) (rest : List Turn),
    s.stepMode = true → s.ustep = [] → s.agenda = .host (.write 0x10 w) :: rest → decodePort w = some i →
    decode w = some i ∧ step s = exec i { s with agenda := rest }

/-- 30_encoding.md rules R89, R90, R95: a port write in AUTO mode, and in STEP mode a word the port does not
accept, event words among them, change nothing but BAD_OP. That BAD_OP appears in the very step of the write, also in the
middle of a macro-operation in AUTO mode, is the model's choice (log entry 21). -/
def Obligations.RefusedPortWritesOnlyRaiseBadOp : Prop :=
  (∀ w : OpWord, (OpWord.op w).toNat ∈ [1, 2, 3] → decodePort w = none) ∧
  ∀ (s : State) (w : OpWord) (rest : List Turn),
    s.agenda = .host (.write 0x10 w) :: rest →
    s.stepMode = false ∨ (s.ustep = [] ∧ decodePort w = none) →
    step s = .next { s with agenda := rest, cond := s.cond ||| 0x40#8 }

/-- 45_session.md rules R188, R191, R192, R194 and 30_encoding.md rule R99: a turn of SEQ takes the micro-step at the
head of USTEP, an operation among them with the meaning it has everywhere; between two operations AUTO mode issues
the operation of SESS and STEP mode issues nothing. That USTEP is such a list and that a turn without a step
passes are the model's (log entries 15 and 3). -/
def Obligations.SeqRunsItsListThenTheSession : Prop :=
  ∀ (s : State) (rest : List Turn), s.agenda = .seq :: rest →
    (∀ i ms, s.ustep = .op i :: ms → step s = exec i { s with agenda := rest, ustep := ms }) ∧
    (∀ ms, s.ustep = .savePv :: ms →
      step s = .next { s with agenda := rest, ustep := ms, pvT := s.prevValid }) ∧
    (∀ ms, s.ustep = .ifPv :: ms →
      (s.pvT = true → step s = .next { s with
        agenda := rest, ustep := [.op (.record .res), .op (.classify .res), .op .decR] ++ ms }) ∧
      (s.pvT = false → step s = .next { s with agenda := rest, ustep := ms })) ∧
    (∀ ms, s.ustep = .ifPending :: ms →
      (s.res = 1 → step s = .next { s with
        agenda := rest, sess := .draining,
        ustep := [.op .mask, .op .peek, .op .adv, .savePv, .op (.delta .res), .ifPv, .op .unmask,
          .setSess .collecting] ++ ms }) ∧
      (s.res ≠ 1 → step s = .next { s with agenda := rest, ustep := ms })) ∧
    (∀ x ms, s.ustep = .setSess x :: ms →
      step s = .next { s with agenda := rest, ustep := ms, sess := x }) ∧
    (∀ ms, s.ustep = .bumpCursor :: ms →
      step s = .next { s with agenda := rest, ustep := ms, nvCursor := s.nvCursor + 1 }) ∧
    (s.ustep = [] → s.stepMode = true → step s = .next { s with agenda := rest }) ∧
    (s.ustep = [] → s.stepMode = false →
      (s.sess = .init → step s = exec .sInit { s with agenda := rest }) ∧
      (s.sess = .collecting → step s = exec .sPoll { s with agenda := rest }) ∧
      (s.sess = .closing → step s = exec .sClose { s with agenda := rest }) ∧
      (s.sess = .idle → step s = exec .sIdle { s with agenda := rest }))

/-- 60_exceptions.md rules R213 and R216: a turn of TIMER, PIN or NVDEV is its event's step, and a TICK and an EDGE
at one instant are two steps, one after the other, in the order TIE_ORDER gives; with TIE_ORDER = either they come in
one of the two orders. That a coincidence is one turn whose second event is the next turn is the model's choice
(log entry 14). -/
def Obligations.EventsAreStepsOfTheirAgents : Prop :=
  ∀ (s : State) (rest : List Turn),
    (s.agenda = .timer :: rest → step s = exec .tick { s with agenda := rest }) ∧
    (s.agenda = .pin :: rest → step s = exec .edge { s with agenda := rest }) ∧
    (s.agenda = .nvdev :: rest → step s = exec .nvdone { s with agenda := rest }) ∧
    (s.agenda = .tickAndEdge :: rest → s.cfg.tieOrder = .tickFirst →
      step s = exec .tick { s with agenda := .pin :: rest, freeCtr := s.freeCtr + 1 }) ∧
    (s.agenda = .tickAndEdge :: rest → s.cfg.tieOrder = .edgeFirst →
      step s = exec .edge { s with agenda := .timer :: rest, freeCtr := s.freeCtr + 1 }) ∧
    (s.agenda = .tickAndEdge :: rest → s.cfg.tieOrder = .either →
      step s = exec .tick { s with agenda := .pin :: rest, freeCtr := s.freeCtr + 1 } ∨
      step s = exec .edge { s with agenda := .timer :: rest, freeCtr := s.freeCtr + 1 })

/-! ### The whole machine -/

/-- 60_exceptions.md rules R218 and R221: an event's step touches only the elements its rule names, so SEQ
continues as if nothing had happened. -/
def Obligations.EventsTouchOnlyTheirElements : Prop :=
  ∀ s t : State,
    (exec .tick s = .next t → t = { s with tick := t.tick }) ∧
    (exec .edge s = .next t → (∀ k, k ≠ 1 → k ≠ 4 → t.cond.getLsbD k = s.cond.getLsbD k) ∧
      t = { s with
        ts := t.ts, wrIdx := t.wrIdx, edgeFullDrops := t.edgeFullDrops, edgeMaskDrops := t.edgeMaskDrops,
        cond := t.cond }) ∧
    (exec .nvdone s = .next t → t = { s with nv := t.nv, nvBusy := t.nvBusy })

/-- 60_exceptions.md rule R221 and 10_state.md rule R40: no operation of SEQ writes TICK, TS, WR_IDX, the drop
counters and condition bits of the producer, or NV, and none clears NV_BUSY. -/
def Obligations.SeqNeverWritesTheProducersState : Prop :=
  ∀ (i : Instr) (s t : State), i.issuable = true → exec i s = .next t →
    t.tick = s.tick ∧ t.ts = s.ts ∧ t.wrIdx = s.wrIdx ∧ t.edgeFullDrops = s.edgeFullDrops ∧
    t.edgeMaskDrops = s.edgeMaskDrops ∧ t.hasCond .edgeFull = s.hasCond .edgeFull ∧
    t.hasCond .edgeMasked = s.hasCond .edgeMasked ∧ t.nv = s.nv ∧ (s.nvBusy = true → t.nvBusy = true)

/-- 10_state.md rules R20 and R45 and 70_reset_and_hazards.md rule R242: no step changes the configuration, and
only a reset changes the sampled strap. That a reset keeps the configuration too is the model's reading (log entry
22). -/
def Obligations.ConfigurationNeverChanges : Prop :=
  ∀ s t : State, step s = .next t → t.cfg = s.cfg ∧ (¬ ResetsNext s → t.stepMode = s.stepMode)

/-- 60_exceptions.md rule R212: a condition bit once set stays set until reset, and no step lowers a drop counter
or FRAMES; neither does any step take back NV_MODE or PREV_VALID (10_state.md rules R25, R35). -/
def Obligations.ConditionsStayUntilReset : Prop :=
  ∀ s t : State, ¬ ResetsNext s → step s = .next t →
    (∀ c, s.hasCond c = true → t.hasCond c = true) ∧
    s.edgeFullDrops.toNat ≤ t.edgeFullDrops.toNat ∧ s.edgeMaskDrops.toNat ≤ t.edgeMaskDrops.toNat ∧
    s.nvCeilDrops.toNat ≤ t.nvCeilDrops.toNat ∧ s.frames.toNat ≤ t.frames.toNat ∧
    (s.nvMode = true → t.nvMode = true) ∧ (s.prevValid = true → t.prevValid = true)

/-- 10_state.md rules R22 to R24 and R41 (b): without a reset the indices never move back, by more than one, and
an entry once stored is never changed. -/
def Obligations.StoredTimestampsNeverChange : Prop :=
  ∀ s t : State, Inv s → ¬ ResetsNext s → step s = .next t →
    s.wrIdx.toNat ≤ t.wrIdx.toNat ∧ t.wrIdx.toNat ≤ s.wrIdx.toNat + 1 ∧
    s.rdIdx.toNat ≤ t.rdIdx.toNat ∧ t.rdIdx.toNat ≤ s.rdIdx.toNat + 1 ∧
    ∀ i, i < s.wrIdx.toNat → t.tsRead i = s.tsRead i

/-- 10_state.md rules R36 and R39 and 20_memory.md rule R62: without a reset the storage changes only while a
write is in progress, only at NV_ADDR, only to NV_DATA, and that step ends the write; while the write stays in
progress NV_ADDR and NV_DATA are frozen. -/
def Obligations.StorageChangesOnlyByTheWriteInFlight : Prop :=
  ∀ s t : State, ¬ ResetsNext s → step s = .next t →
    (∀ a, t.nvRead a ≠ s.nvRead a →
      s.nvBusy = true ∧ a = s.nvAddr.toNat ∧ t.nvRead a = s.nvData ∧ t.nvBusy = false) ∧
    (s.nvBusy = true → t.nvAddr = s.nvAddr ∧ t.nvData = s.nvData)

/-- 45_session.md rule R196 and 20_memory.md rule R77: MASK and UNMASK are the only operations that change CE. -/
def Obligations.OnlyTheMaskOperationsChangeCE : Prop :=
  ∀ (i : Instr) (s t : State), exec i s = .next t → t.ce ≠ s.ce →
    (i = .mask ∧ t.ce = false) ∨ (i = .unmask ∧ t.ce = true ∧ s.sess ≠ .closing ∧ s.sess ≠ .idle)

/-- 10_state.md rule R31: only NOW, HASP, PEEK, DELTA and CLASSIFY write RES. -/
def Obligations.OnlyFiveOperationsWriteRes : Prop :=
  ∀ (i : Instr) (s t : State), exec i s = .next t → t.res ≠ s.res →
    i = .now ∨ i = .hasp ∨ i = .peek ∨ (∃ o, i = .delta o) ∨ ∃ o, i = .classify o

/-- 44_recorder.md section 1: "In AUTO mode the steps only ever occur in the order (a) to (e)", so no step of AUTO
mode raises NV_SEQ. The steps still to come are read off USTEP, the model's list (log entry 15). -/
def Obligations.AutoModeNeverBreaksTheProtocol : Prop :=
  ∀ s t : State, AutoInv s → ¬ ResetsNext s → step s = .next t → AutoInv t

/-- 10_state.md rule R41 at reset, for every well-formed configuration, either strap and any canonical storage. -/
def Obligations.InvariantHoldsAtReset : Prop :=
  ∀ (c : Config) (strap : Bool) (nv : List Host.Cell), c.wf = true → Memory.wf ceiling nv = true →
    Inv (State.afterReset c strap nv) ∧ (strap = false → AutoInv (State.afterReset c strap nv))

/-- 10_state.md rule R41: every step keeps the invariant, from every state that meets it and whatever stands on the
agenda. (That a written timestamp never changes, the rest of (b), is StoredTimestampsNeverChange. What the invariant
says of USTEP is about the model's list, log entry 15.) -/
def Obligations.EveryStepKeepsTheInvariant : Prop :=
  ∀ s t : State, Inv s → step s = .next t → Inv t

/-- 70_reset_and_hazards.md rule R244: in AUTO mode, from a state of a finished run on, no step but a reset changes
anything but TICK, the count and the condition of masked edges, and the model's own fields; the run stays
finished. A refused host write to OPW, which rule R90 lets raise BAD_OP, is left out. -/
def Obligations.FinishedRunStaysFinished : Prop :=
  ∀ s t : State, Inv s → s.done = true → s.stepMode = false → s.ustep = [] → ¬ ResetsNext s →
    (∀ v, (nextTurn s).1 ≠ .host (.write 0x10 v)) → step s = .next t →
    t.done = true ∧ (∀ k, k ≠ 4 → t.cond.getLsbD k = s.cond.getLsbD k) ∧
    t = { s with
      tick := t.tick, edgeMaskDrops := t.edgeMaskDrops, cond := t.cond, agenda := t.agenda, rota := t.rota,
      freeCtr := t.freeCtr, hostData := t.hostData }

/-! ### Reset and the host's view -/

/-- 70_reset_and_hazards.md rules R240 and R241 with the values of 10_state.md rule R47: reset in the middle of
anything. NV is kept, but for the byte being programmed, about whose value nothing is said. That the
configuration stays is the model's reading (log entry 22), what becomes of the model's own fields its choice (log
entry 13). -/
def Obligations.ResetClearsAllButTheStorage : Prop :=
  ∀ (s : State) (strap : Bool) (rest : List Turn), s.agenda = .host (.reset strap) :: rest →
    ∃ t, step s = .next t ∧ t.cfg = s.cfg ∧ t.stepMode = strap ∧ t.tick = 0 ∧ t.wrIdx = 0 ∧ t.rdIdx = 0 ∧
      t.prevTs = 0 ∧ t.prevValid = false ∧ t.acc = 0 ∧ t.bitpos = 0 ∧ t.cmd = 0 ∧ t.frames = 0 ∧
      t.nvCursor = 0 ∧ t.res = 0 ∧ t.sess = .init ∧ t.ustep = [] ∧ t.ce = false ∧ t.nvBusy = false ∧
      t.nvArm = false ∧ t.nvMode = false ∧ t.nvAddr = 0 ∧ t.nvData = 0 ∧ t.cond = 0 ∧
      t.edgeFullDrops = 0 ∧ t.edgeMaskDrops = 0 ∧ t.nvCeilDrops = 0 ∧
      (∀ i, Memory.read? t.ts i = none) ∧
      ∀ a, s.nvBusy = false ∨ a ≠ s.nvAddr.toNat → t.nvRead a = s.nvRead a

/-- 10_state.md rules R42 and R43 and 20_memory.md rule R79: what a host read returns at every address of the map.
At the address being programmed it returns some byte (93_implementation_defined.md U2), which is a free value of the
model (log entry 11). -/
def Obligations.HostSeesTheRegisterMap : Prop :=
  ∀ s : State,
    ((hostRead 0x00 s).toNat =
      (sessCode s.sess).toNat + 8 * s.ce.toNat + 16 * s.nvBusy.toNat + 32 * s.nvArm.toNat +
        64 * s.nvMode.toNat + 128 * s.prevValid.toNat + 256 * s.stepMode.toNat +
        512 * (if s.rdIdx.toNat < s.wrIdx.toNat then 1 else 0) +
        1024 * (if s.sess = .idle ∧ s.nvBusy = false then 1 else 0)) ∧
    (hostRead 0x01 s).toNat = s.tick.toNat ∧ (hostRead 0x02 s).toNat = s.wrIdx.toNat ∧
    (hostRead 0x03 s).toNat = s.rdIdx.toNat ∧ (hostRead 0x04 s).toNat = s.prevTs.toNat ∧
    (hostRead 0x05 s).toNat = s.acc.toNat ∧ (hostRead 0x06 s).toNat = s.bitpos.toNat ∧
    (hostRead 0x07 s).toNat = s.cmd.toNat ∧ (hostRead 0x08 s).toNat = s.frames.toNat ∧
    (hostRead 0x09 s).toNat = s.nvCursor.toNat ∧
    (hostRead 0x0A s).toNat = 256 * s.nvAddr.toNat + s.nvData.toNat ∧
    (hostRead 0x0B s).toNat = s.edgeFullDrops.toNat ∧ (hostRead 0x0C s).toNat = s.edgeMaskDrops.toNat ∧
    (hostRead 0x0D s).toNat = s.nvCeilDrops.toNat ∧ (hostRead 0x0E s).toNat = s.res.toNat ∧
    (hostRead 0x0F s).toNat = s.cond.toNat ∧
    (∀ a : HostAddr, 0x10 ≤ a.toNat → a.toNat < 0x40 → hostRead a s = 0) ∧
    (∀ a : HostAddr, 0x40 ≤ a.toNat → a.toNat < 0x100 → (hostRead a s).toNat =
      if a.toNat - 0x40 < s.cfg.cap ∧ a.toNat - 0x40 < s.wrIdx.toNat then (s.tsRead (a.toNat - 0x40)).toNat
      else 0) ∧
    ∀ a : HostAddr, 0x100 ≤ a.toNat →
      (s.nvBusy = false ∨ a.toNat - 0x100 ≠ s.nvAddr.toNat →
        (hostRead a s).toNat = (s.nvRead (a.toNat - 0x100)).toNat) ∧
      (hostRead a s).toNat < 256

/-- 10_state.md rules R42 and R44: a host read, and a host write to any address but OPW, change no element of the
block. In STEP mode HOST gets a bus access only between two operations (30_encoding.md rule R95). -/
def Obligations.HostReadsAndIgnoredWritesChangeNothing : Prop :=
  ∀ (s : State) (a : HostAddr) (rest : List Turn), s.stepMode = false ∨ s.ustep = [] →
    (s.agenda = .host (.read a) :: rest → ∃ t, step s = .next t ∧ t.hostData = hostRead a s ∧
      t = { s with agenda := rest, freeCtr := t.freeCtr, hostData := t.hostData }) ∧
    ∀ v, a ≠ 0x10 → s.agenda = .host (.write a v) :: rest → step s = .next { s with agenda := rest }

/-- 30_encoding.md rule R95: in STEP mode, while an operation is in progress, a bus access of HOST waits at the head
of the agenda. That reads wait too is the model's reading (log entry 4), and that the agent of the rota moves
meanwhile is the model's choice (log entry 2). -/
def Obligations.HostWaitsForTheOperationInProgress : Prop :=
  ∀ (s : State) (a : HostAct) (rest : List Turn), s.stepMode = true → s.ustep ≠ [] → a.isBus = true →
    s.agenda = .host a :: rest →
    (s.rota = .seq → step s = seqStep { s with rota := .timer }) ∧
    (s.rota = .timer → step s = exec .tick { s with rota := .nvdev }) ∧
    (s.rota = .nvdev → step s = exec .nvdone { s with rota := .seq }) ∧
    ∃ t, step s = .next t ∧ t.agenda = s.agenda

/-- 45_session.md rule R187: in a quiet environment an S.POLL with nothing pending leaves RES = 0 and changes nothing
else of its own; a byte in flight may complete meanwhile. The quiet environment is the model's choice (log entry
2), and so is the step that issues the poll (log entry 15). -/
def Obligations.PollWithNothingPendingOnlyClearsRes : Prop :=
  ∀ s : State, s.agenda = [] → s.ustep = [] → s.sess = .collecting → s.rdIdx.toNat ≠ s.cfg.cap →
    s.wrIdx.toNat ≤ s.rdIdx.toNat →
    ∃ u t, exec .sPoll s = .next u ∧ Reaches u t ∧ (∀ a, t.settledNv a = s.settledNv a) ∧
      t = { s with tick := t.tick, rota := t.rota, res := 0, nv := t.nv, nvBusy := t.nvBusy }

/-- 40_timer.md rule R112 and 70_reset_and_hazards.md rule R257: in every endless run, whatever its inputs, TICK steps
keep happening, NVDEV keeps getting its turn and SEQ keeps getting its turn; with no input listed the three take
turns; and, in a state that meets the invariant, no step but a TICK or a reset moves TICK. The rota that makes it so is the model's choice (log entry 2). -/
def Obligations.EveryEndlessRunIsFair : Prop :=
  (∀ s : State, s.agenda = [] →
    (s.rota = .seq → step s = seqStep { s with rota := .timer }) ∧
    (s.rota = .timer → step s = exec .tick { s with rota := .nvdev }) ∧
    (s.rota = .nvdev → step s = exec .nvdone { s with rota := .seq })) ∧
  (∀ s t : State, Inv s → ¬ ResetsNext s → step s = .next t → t.tick ≠ s.tick →
    (nextTurn s).1 = .timer ∨ (nextTurn s).1 = .tickAndEdge) ∧
  ∀ x : Nat → State, (∀ n, step (x n) = .next (x (n + 1))) → ∀ n,
    (∃ m, n ≤ m ∧ exec .tick (nextTurn (x m)).2 = .next (x (m + 1))) ∧
    (∃ m, n ≤ m ∧ exec .nvdone (nextTurn (x m)).2 = .next (x (m + 1))) ∧
    ∃ m, n ≤ m ∧ seqStep (nextTurn (x m)).2 = .next (x (m + 1))
end

