-- ==== Sys2Proof/Machine/Assembly.lean ====
section
/-! DEFINITION. The spec's assembly text and its pseudo-operations (30_encoding.md rules R97, R98). No other
definition rests on them. -/

namespace Sys2Proof

/-- `MNEMONIC value` for R = 0, `MNEMONIC.R` for R = 1 (rule R97). -/
def operandText (mnemonic : String) : Operand → String
  | .imm v => mnemonic ++ " " ++ toString v.toNat
  | .res => mnemonic ++ ".R"

/-- `NV.LOAD addr, data` for imm = {addr, data} (rule R97). -/
def loadText : Operand → String
  | .imm v => "NV.LOAD " ++ toString (v.toNat / 256) ++ ", " ++ toString (v.toNat % 256)
  | .res => "NV.LOAD.R"

/-- An operation in the spec's syntax, values in decimal (rule R97). -/
def Instr.text : Instr → String
  | .delta t => operandText "DELTA" t
  | .classify d => operandText "CLASSIFY" d
  | .wbyte b => operandText "WBYTE" b
  | .seek a => operandText "SEEK" a
  | .record d => operandText "RECORD" d
  | .nvLoad ad => loadText ad
  | i => i.row.mnemonic

/-- The pseudo-operations that have an expansion of more than one operation; they have no opcode (rule R98). -/
inductive Pseudo where
  /-- `WSTR b0 b1 ... bn`. -/
  | wstr (bytes : List Byte)
  /-- `POP`. -/
  | pop
  /-- `COMMITB addr, data`. -/
  | commitB (addr data : Byte)
  /-- A critical section around some operations. -/
  | crit (ops : List Instr)
  deriving DecidableEq, Repr

/-- The "expansion" column of rule R98. -/
def Pseudo.expand : Pseudo → List Instr
  | .wstr bytes => bytes.map fun b => .wbyte (.imm (b.setWidth 16))
  | .pop => [.peek, .adv]
  | .commitB addr data => [.nvWait, .nvMode, .nvLoad (.imm (addr ++ data)), .nvArm, .nvCommit]
  | .crit ops => .mask :: ops ++ [.unmask]

end Sys2Proof
end

