-- ==== Sys2Proof/Laws/Assembly.lean ====
section
/-! SUPPORT. The steps the recorder's macros leave to be run are the pseudo-operations' expansions
(30_encoding.md rule R98). -/

namespace Sys2Proof.Machine

/-- `WSTR` is what the record writers leave to be run. -/
theorem writeString_eq_wstr (bs : List Byte) :
    writeString bs = (Pseudo.wstr bs).expand.map Micro.op := by
  simp [writeString, Pseudo.expand]

/-- A WBYTE below the ceiling is `COMMITB` at the cursor and then the cursor's increment. -/
theorem byteWrite_eq_commitB (a b : Byte) :
    byteWrite a b = (Pseudo.commitB a b).expand.map Micro.op ++ [.bumpCursor] := rfl

end Sys2Proof.Machine
end

