-- ==== Sys2Proof/Laws/Decode.lean ====
section
/-! SUPPORT. The fields of a made word, a word from its fields, and the round trip of an operand. -/

namespace Sys2Proof

@[simp] theorem OpWord.op_make (r : Bool) (op : BitVec 8) (imm : Word) :
    OpWord.op (OpWord.make r op imm) = op := by
  apply BitVec.eq_of_getLsbD_eq
  intro i hi
  have h₁ : ¬ 16 + i < 16 := by omega
  have h₂ : 16 + i < 24 := by omega
  have h₃ : 16 + i < 32 := by omega
  simp [OpWord.op, OpWord.make, hi, h₁, h₂, h₃]

@[simp] theorem OpWord.imm_make (r : Bool) (op : BitVec 8) (imm : Word) :
    OpWord.imm (OpWord.make r op imm) = imm := by
  apply BitVec.eq_of_getLsbD_eq
  intro i hi
  have h₂ : i < 24 := by omega
  have h₃ : i < 32 := by omega
  simp [OpWord.imm, OpWord.make, hi, h₂, h₃]

@[simp] theorem OpWord.r_make (r : Bool) (op : BitVec 8) (imm : Word) :
    OpWord.r (OpWord.make r op imm) = r := by
  simp [OpWord.r, OpWord.make]

@[simp] theorem OpWord.z_make (r : Bool) (op : BitVec 8) (imm : Word) :
    OpWord.z (OpWord.make r op imm) = 0#7 := by
  apply BitVec.eq_of_getLsbD_eq
  intro i hi
  simp [OpWord.z, OpWord.make]
  grind

@[simp] theorem OpWord.operand_make (r : Bool) (op : BitVec 8) (imm : Word) :
    OpWord.operand (OpWord.make r op imm) = if r then .res else .imm imm := by
  simp [OpWord.operand]

/-- A word with Z = 0 is made of its other three fields. -/
theorem OpWord.eq_make (w : OpWord) (h : OpWord.z w = 0#7) :
    w = OpWord.make (OpWord.r w) (OpWord.op w) (OpWord.imm w) := by
  apply BitVec.eq_of_getLsbD_eq
  intro i hi
  by_cases h₃ : i < 25
  · simp [OpWord.make, OpWord.r, OpWord.op, OpWord.imm]
    grind
  · have hz := congrArg (fun v => v.getLsbD (i - 25)) h
    simp [OpWord.z] at hz
    have h₂ := hz (by omega)
    rw [show 25 + (i - 25) = i by omega] at h₂
    simp [OpWord.make, h₂]
    grind

theorem decode_event_ne (r : Bool) (op : BitVec 8) (imm : Word) (h : 3 < op.toNat) :
    OpWord.make r op imm ≠ 0x00010000#32 ∧ OpWord.make r op imm ≠ 0x00020000#32 ∧
      OpWord.make r op imm ≠ 0x00030000#32 := by
  have key : ∀ v : OpWord, OpWord.make r op imm = v → OpWord.op v = op := by
    rintro v rfl; simp
  refine ⟨fun e => ?_, fun e => ?_, fun e => ?_⟩ <;>
  · have := key _ e
    rw [← this] at h
    exact absurd h (by decide)

/-- Above the three event opcodes, decoding a made word is the opcode map. -/
theorem decode_make (r : Bool) (op : BitVec 8) (imm : Word) (h : 3 < op.toNat) :
    decode (OpWord.make r op imm) = decodeSeq (OpWord.make r op imm) := by
  obtain ⟨h₁, h₂, h₃⟩ := decode_event_ne r op imm h
  simp [decode, h₁, h₂, h₃]

end Sys2Proof
end

