-- ==== Sys2Proof/Laws/Flags.lean ====
section
/-! SUPPORT. What the condition bits, the saturating counters, and the operand fields compute. -/

namespace Sys2Proof.Machine

theorem satInc_toNat (r : Word) : (satInc r).toNat = min (r.toNat + 1) 65535 := by
  unfold satInc
  have := r.isLt
  split_ifs with h
  · rw [BitVec.toNat_add]; simp; omega
  · omega

theorem satInc_le (r : Word) : r.toNat ≤ (satInc r).toNat := by
  rw [satInc_toNat]; have := r.isLt; omega

theorem satInc_ne_zero (r : Word) : satInc r ≠ 0 := by
  intro h
  have := congrArg BitVec.toNat h
  rw [satInc_toNat] at this
  simp at this

theorem condCode_lt (c : Cond) : condCode c < 8 := by cases c <;> decide

theorem condCode_injective {c d : Cond} (h : condCode c = condCode d) : c = d := by
  cases c <;> cases d <;> simp [condCode] at h ⊢

theorem getLsbD_setCondBit (v : BitVec 8) (c : Cond) (k : Nat) :
    (setCondBit v c).getLsbD k = (v.getLsbD k || decide (k = condCode c)) := by
  have hc := condCode_lt c
  simp only [setCondBit, BitVec.getLsbD_or, BitVec.getLsbD_shiftLeft, BitVec.getLsbD_one]
  by_cases hk : k = condCode c
  · subst hk; simp [hc]
  · simp only [hk, decide_false, Bool.or_false]
    have : ¬ (condCode c ≤ k ∧ k - condCode c = 0) := by omega
    by_cases hlt : k < condCode c
    · simp [hlt]
    · simp [show k - condCode c ≠ 0 by omega]

theorem setCondBit_edgeFull (v : BitVec 8) : setCondBit v .edgeFull = v ||| 0x02#8 := rfl
theorem setCondBit_nvCeil (v : BitVec 8) : setCondBit v .nvCeil = v ||| 0x04#8 := rfl
theorem setCondBit_cmdUnknown (v : BitVec 8) : setCondBit v .cmdUnknown = v ||| 0x08#8 := rfl
theorem setCondBit_edgeMasked (v : BitVec 8) : setCondBit v .edgeMasked = v ||| 0x10#8 := rfl
theorem setCondBit_fmtSat (v : BitVec 8) : setCondBit v .fmtSat = v ||| 0x20#8 := rfl
theorem setCondBit_badOp (v : BitVec 8) : setCondBit v .badOp = v ||| 0x40#8 := rfl
theorem setCondBit_nvSeq (v : BitVec 8) : setCondBit v .nvSeq = v ||| 0x80#8 := rfl

/-- `raise` sets its own bit and no other (60_exceptions.md rule R212). -/
theorem hasCond_raise (s : State) (c d : Cond) :
    (s.raise c).hasCond d = (s.hasCond d || decide (d = c)) := by
  simp only [State.hasCond, State.raise, getLsbD_setCondBit]
  congr 1
  by_cases h : d = c
  · simp [h]
  · have hne : condCode d ≠ condCode c := fun e => h (condCode_injective e)
    simp [h, hne]

theorem symbolOfCode_symbolCode (x : Symbol) : symbolOfCode (symbolCode x) = x := by
  cases x <;> rfl

theorem symbolCode_symbolOfCode (c : BitVec 2) : symbolCode (symbolOfCode c) = c := by
  revert c; decide

/-! ### Operands -/

theorem truncTick_toNat (c : Config) (v : Word) (h : c.tickW ≤ 16) :
    (truncTick c v).toNat = v.toNat % 2 ^ c.tickW := by
  have hp : 2 ^ c.tickW ≤ 2 ^ 16 := Nat.pow_le_pow_right (by omega) h
  have hm := Nat.mod_lt v.toNat (Nat.two_pow_pos c.tickW)
  simp only [truncTick, BitVec.toNat_ofNat]
  exact Nat.mod_eq_of_lt (by omega)

theorem truncTick_narrow (c : Config) (v : Word) (h : c.tickW ≤ 16) :
    (truncTick c v).toNat < 2 ^ c.tickW := by
  rw [truncTick_toNat c v h]; exact Nat.mod_lt _ (Nat.two_pow_pos _)

theorem truncTick_of_narrow (c : Config) (v : Word) (h : v.toNat < 2 ^ c.tickW) :
    truncTick c v = v := by
  simp [truncTick, Nat.mod_eq_of_lt h]

theorem byteArg_toNat (o : Operand) (s : State) : (byteArg o s).toNat = (argOf o s).toNat % 256 := by
  simp [byteArg]

theorem addrArg_toNat (o : Operand) (s : State) : (addrArg o s).toNat = (argOf o s).toNat / 256 := by
  have := (argOf o s).isLt
  simp [addrArg, Nat.shiftRight_eq_div_pow]; omega

theorem cursorArg_toNat (o : Operand) (s : State) : (cursorArg o s).toNat = (argOf o s).toNat % 512 := by
  simp [cursorArg]

end Sys2Proof.Machine
end

