-- ==== Sys2Proof/Laws/State.lean ====
section
/-! SUPPORT. One lemma per field per named update of the state, true by rfl, so that no later proof unfolds a
record update; for the updates that branch, the frame and then one lemma per field they keep. -/

namespace Sys2Proof.Machine

@[simp] theorem raise_cfg (s : State) (c : Cond) : (s.raise c).cfg = s.cfg := rfl
@[simp] theorem raise_stepMode (s : State) (c : Cond) : (s.raise c).stepMode = s.stepMode := rfl
@[simp] theorem raise_tick (s : State) (c : Cond) : (s.raise c).tick = s.tick := rfl
@[simp] theorem raise_ts (s : State) (c : Cond) : (s.raise c).ts = s.ts := rfl
@[simp] theorem raise_wrIdx (s : State) (c : Cond) : (s.raise c).wrIdx = s.wrIdx := rfl
@[simp] theorem raise_rdIdx (s : State) (c : Cond) : (s.raise c).rdIdx = s.rdIdx := rfl
@[simp] theorem raise_prevTs (s : State) (c : Cond) : (s.raise c).prevTs = s.prevTs := rfl
@[simp] theorem raise_prevValid (s : State) (c : Cond) : (s.raise c).prevValid = s.prevValid := rfl
@[simp] theorem raise_acc (s : State) (c : Cond) : (s.raise c).acc = s.acc := rfl
@[simp] theorem raise_bitpos (s : State) (c : Cond) : (s.raise c).bitpos = s.bitpos := rfl
@[simp] theorem raise_cmd (s : State) (c : Cond) : (s.raise c).cmd = s.cmd := rfl
@[simp] theorem raise_frames (s : State) (c : Cond) : (s.raise c).frames = s.frames := rfl
@[simp] theorem raise_nvCursor (s : State) (c : Cond) : (s.raise c).nvCursor = s.nvCursor := rfl
@[simp] theorem raise_res (s : State) (c : Cond) : (s.raise c).res = s.res := rfl
@[simp] theorem raise_sess (s : State) (c : Cond) : (s.raise c).sess = s.sess := rfl
@[simp] theorem raise_ustep (s : State) (c : Cond) : (s.raise c).ustep = s.ustep := rfl
@[simp] theorem raise_pvT (s : State) (c : Cond) : (s.raise c).pvT = s.pvT := rfl
@[simp] theorem raise_ce (s : State) (c : Cond) : (s.raise c).ce = s.ce := rfl
@[simp] theorem raise_nvBusy (s : State) (c : Cond) : (s.raise c).nvBusy = s.nvBusy := rfl
@[simp] theorem raise_nvArm (s : State) (c : Cond) : (s.raise c).nvArm = s.nvArm := rfl
@[simp] theorem raise_nvMode (s : State) (c : Cond) : (s.raise c).nvMode = s.nvMode := rfl
@[simp] theorem raise_nvAddr (s : State) (c : Cond) : (s.raise c).nvAddr = s.nvAddr := rfl
@[simp] theorem raise_nvData (s : State) (c : Cond) : (s.raise c).nvData = s.nvData := rfl
@[simp] theorem raise_cond (s : State) (c : Cond) : (s.raise c).cond = setCondBit s.cond c := rfl
@[simp] theorem raise_edgeFullDrops (s : State) (c : Cond) : (s.raise c).edgeFullDrops = s.edgeFullDrops := rfl
@[simp] theorem raise_edgeMaskDrops (s : State) (c : Cond) : (s.raise c).edgeMaskDrops = s.edgeMaskDrops := rfl
@[simp] theorem raise_nvCeilDrops (s : State) (c : Cond) : (s.raise c).nvCeilDrops = s.nvCeilDrops := rfl
@[simp] theorem raise_nv (s : State) (c : Cond) : (s.raise c).nv = s.nv := rfl
@[simp] theorem raise_agenda (s : State) (c : Cond) : (s.raise c).agenda = s.agenda := rfl
@[simp] theorem raise_rota (s : State) (c : Cond) : (s.raise c).rota = s.rota := rfl
@[simp] theorem raise_freeCtr (s : State) (c : Cond) : (s.raise c).freeCtr = s.freeCtr := rfl
@[simp] theorem raise_hostData (s : State) (c : Cond) : (s.raise c).hostData = s.hostData := rfl

@[simp] theorem refuse_cfg (s : State) : (s.refuse).cfg = s.cfg := rfl
@[simp] theorem refuse_stepMode (s : State) : (s.refuse).stepMode = s.stepMode := rfl
@[simp] theorem refuse_tick (s : State) : (s.refuse).tick = s.tick := rfl
@[simp] theorem refuse_ts (s : State) : (s.refuse).ts = s.ts := rfl
@[simp] theorem refuse_wrIdx (s : State) : (s.refuse).wrIdx = s.wrIdx := rfl
@[simp] theorem refuse_rdIdx (s : State) : (s.refuse).rdIdx = s.rdIdx := rfl
@[simp] theorem refuse_prevTs (s : State) : (s.refuse).prevTs = s.prevTs := rfl
@[simp] theorem refuse_prevValid (s : State) : (s.refuse).prevValid = s.prevValid := rfl
@[simp] theorem refuse_acc (s : State) : (s.refuse).acc = s.acc := rfl
@[simp] theorem refuse_bitpos (s : State) : (s.refuse).bitpos = s.bitpos := rfl
@[simp] theorem refuse_cmd (s : State) : (s.refuse).cmd = s.cmd := rfl
@[simp] theorem refuse_frames (s : State) : (s.refuse).frames = s.frames := rfl
@[simp] theorem refuse_nvCursor (s : State) : (s.refuse).nvCursor = s.nvCursor := rfl
@[simp] theorem refuse_res (s : State) : (s.refuse).res = s.res := rfl
@[simp] theorem refuse_sess (s : State) : (s.refuse).sess = s.sess := rfl
@[simp] theorem refuse_ustep (s : State) : (s.refuse).ustep = s.ustep := rfl
@[simp] theorem refuse_pvT (s : State) : (s.refuse).pvT = s.pvT := rfl
@[simp] theorem refuse_ce (s : State) : (s.refuse).ce = s.ce := rfl
@[simp] theorem refuse_nvBusy (s : State) : (s.refuse).nvBusy = s.nvBusy := rfl
@[simp] theorem refuse_nvArm (s : State) : (s.refuse).nvArm = s.nvArm := rfl
@[simp] theorem refuse_nvMode (s : State) : (s.refuse).nvMode = s.nvMode := rfl
@[simp] theorem refuse_nvAddr (s : State) : (s.refuse).nvAddr = s.nvAddr := rfl
@[simp] theorem refuse_nvData (s : State) : (s.refuse).nvData = s.nvData := rfl
@[simp] theorem refuse_cond (s : State) : (s.refuse).cond = setCondBit s.cond .badOp := rfl
@[simp] theorem refuse_edgeFullDrops (s : State) : (s.refuse).edgeFullDrops = s.edgeFullDrops := rfl
@[simp] theorem refuse_edgeMaskDrops (s : State) : (s.refuse).edgeMaskDrops = s.edgeMaskDrops := rfl
@[simp] theorem refuse_nvCeilDrops (s : State) : (s.refuse).nvCeilDrops = s.nvCeilDrops := rfl
@[simp] theorem refuse_nv (s : State) : (s.refuse).nv = s.nv := rfl
@[simp] theorem refuse_agenda (s : State) : (s.refuse).agenda = s.agenda := rfl
@[simp] theorem refuse_rota (s : State) : (s.refuse).rota = s.rota := rfl
@[simp] theorem refuse_freeCtr (s : State) : (s.refuse).freeCtr = s.freeCtr := rfl
@[simp] theorem refuse_hostData (s : State) : (s.refuse).hostData = s.hostData := rfl

@[simp] theorem tsAppend_cfg (s : State) : (s.tsAppend).cfg = s.cfg := rfl
@[simp] theorem tsAppend_stepMode (s : State) : (s.tsAppend).stepMode = s.stepMode := rfl
@[simp] theorem tsAppend_tick (s : State) : (s.tsAppend).tick = s.tick := rfl
@[simp] theorem tsAppend_ts (s : State) : (s.tsAppend).ts = Memory.write s.ts s.wrIdx.toNat s.tick := rfl
@[simp] theorem tsAppend_wrIdx (s : State) : (s.tsAppend).wrIdx = s.wrIdx + 1 := rfl
@[simp] theorem tsAppend_rdIdx (s : State) : (s.tsAppend).rdIdx = s.rdIdx := rfl
@[simp] theorem tsAppend_prevTs (s : State) : (s.tsAppend).prevTs = s.prevTs := rfl
@[simp] theorem tsAppend_prevValid (s : State) : (s.tsAppend).prevValid = s.prevValid := rfl
@[simp] theorem tsAppend_acc (s : State) : (s.tsAppend).acc = s.acc := rfl
@[simp] theorem tsAppend_bitpos (s : State) : (s.tsAppend).bitpos = s.bitpos := rfl
@[simp] theorem tsAppend_cmd (s : State) : (s.tsAppend).cmd = s.cmd := rfl
@[simp] theorem tsAppend_frames (s : State) : (s.tsAppend).frames = s.frames := rfl
@[simp] theorem tsAppend_nvCursor (s : State) : (s.tsAppend).nvCursor = s.nvCursor := rfl
@[simp] theorem tsAppend_res (s : State) : (s.tsAppend).res = s.res := rfl
@[simp] theorem tsAppend_sess (s : State) : (s.tsAppend).sess = s.sess := rfl
@[simp] theorem tsAppend_ustep (s : State) : (s.tsAppend).ustep = s.ustep := rfl
@[simp] theorem tsAppend_pvT (s : State) : (s.tsAppend).pvT = s.pvT := rfl
@[simp] theorem tsAppend_ce (s : State) : (s.tsAppend).ce = s.ce := rfl
@[simp] theorem tsAppend_nvBusy (s : State) : (s.tsAppend).nvBusy = s.nvBusy := rfl
@[simp] theorem tsAppend_nvArm (s : State) : (s.tsAppend).nvArm = s.nvArm := rfl
@[simp] theorem tsAppend_nvMode (s : State) : (s.tsAppend).nvMode = s.nvMode := rfl
@[simp] theorem tsAppend_nvAddr (s : State) : (s.tsAppend).nvAddr = s.nvAddr := rfl
@[simp] theorem tsAppend_nvData (s : State) : (s.tsAppend).nvData = s.nvData := rfl
@[simp] theorem tsAppend_cond (s : State) : (s.tsAppend).cond = s.cond := rfl
@[simp] theorem tsAppend_edgeFullDrops (s : State) : (s.tsAppend).edgeFullDrops = s.edgeFullDrops := rfl
@[simp] theorem tsAppend_edgeMaskDrops (s : State) : (s.tsAppend).edgeMaskDrops = s.edgeMaskDrops := rfl
@[simp] theorem tsAppend_nvCeilDrops (s : State) : (s.tsAppend).nvCeilDrops = s.nvCeilDrops := rfl
@[simp] theorem tsAppend_nv (s : State) : (s.tsAppend).nv = s.nv := rfl
@[simp] theorem tsAppend_agenda (s : State) : (s.tsAppend).agenda = s.agenda := rfl
@[simp] theorem tsAppend_rota (s : State) : (s.tsAppend).rota = s.rota := rfl
@[simp] theorem tsAppend_freeCtr (s : State) : (s.tsAppend).freeCtr = s.freeCtr := rfl
@[simp] theorem tsAppend_hostData (s : State) : (s.tsAppend).hostData = s.hostData := rfl

@[simp] theorem nvProgram_cfg (s : State) : (s.nvProgram).cfg = s.cfg := rfl
@[simp] theorem nvProgram_stepMode (s : State) : (s.nvProgram).stepMode = s.stepMode := rfl
@[simp] theorem nvProgram_tick (s : State) : (s.nvProgram).tick = s.tick := rfl
@[simp] theorem nvProgram_ts (s : State) : (s.nvProgram).ts = s.ts := rfl
@[simp] theorem nvProgram_wrIdx (s : State) : (s.nvProgram).wrIdx = s.wrIdx := rfl
@[simp] theorem nvProgram_rdIdx (s : State) : (s.nvProgram).rdIdx = s.rdIdx := rfl
@[simp] theorem nvProgram_prevTs (s : State) : (s.nvProgram).prevTs = s.prevTs := rfl
@[simp] theorem nvProgram_prevValid (s : State) : (s.nvProgram).prevValid = s.prevValid := rfl
@[simp] theorem nvProgram_acc (s : State) : (s.nvProgram).acc = s.acc := rfl
@[simp] theorem nvProgram_bitpos (s : State) : (s.nvProgram).bitpos = s.bitpos := rfl
@[simp] theorem nvProgram_cmd (s : State) : (s.nvProgram).cmd = s.cmd := rfl
@[simp] theorem nvProgram_frames (s : State) : (s.nvProgram).frames = s.frames := rfl
@[simp] theorem nvProgram_nvCursor (s : State) : (s.nvProgram).nvCursor = s.nvCursor := rfl
@[simp] theorem nvProgram_res (s : State) : (s.nvProgram).res = s.res := rfl
@[simp] theorem nvProgram_sess (s : State) : (s.nvProgram).sess = s.sess := rfl
@[simp] theorem nvProgram_ustep (s : State) : (s.nvProgram).ustep = s.ustep := rfl
@[simp] theorem nvProgram_pvT (s : State) : (s.nvProgram).pvT = s.pvT := rfl
@[simp] theorem nvProgram_ce (s : State) : (s.nvProgram).ce = s.ce := rfl
@[simp] theorem nvProgram_nvBusy (s : State) : (s.nvProgram).nvBusy = s.nvBusy := rfl
@[simp] theorem nvProgram_nvArm (s : State) : (s.nvProgram).nvArm = s.nvArm := rfl
@[simp] theorem nvProgram_nvMode (s : State) : (s.nvProgram).nvMode = s.nvMode := rfl
@[simp] theorem nvProgram_nvAddr (s : State) : (s.nvProgram).nvAddr = s.nvAddr := rfl
@[simp] theorem nvProgram_nvData (s : State) : (s.nvProgram).nvData = s.nvData := rfl
@[simp] theorem nvProgram_cond (s : State) : (s.nvProgram).cond = s.cond := rfl
@[simp] theorem nvProgram_edgeFullDrops (s : State) : (s.nvProgram).edgeFullDrops = s.edgeFullDrops := rfl
@[simp] theorem nvProgram_edgeMaskDrops (s : State) : (s.nvProgram).edgeMaskDrops = s.edgeMaskDrops := rfl
@[simp] theorem nvProgram_nvCeilDrops (s : State) : (s.nvProgram).nvCeilDrops = s.nvCeilDrops := rfl
@[simp] theorem nvProgram_nv (s : State) : (s.nvProgram).nv = Memory.write s.nv s.nvAddr.toNat s.nvData := rfl
@[simp] theorem nvProgram_agenda (s : State) : (s.nvProgram).agenda = s.agenda := rfl
@[simp] theorem nvProgram_rota (s : State) : (s.nvProgram).rota = s.rota := rfl
@[simp] theorem nvProgram_freeCtr (s : State) : (s.nvProgram).freeCtr = s.freeCtr := rfl
@[simp] theorem nvProgram_hostData (s : State) : (s.nvProgram).hostData = s.hostData := rfl

@[simp] theorem pushSeq_cfg (s : State) (ms : List Micro) : (s.pushSeq ms).cfg = s.cfg := rfl
@[simp] theorem pushSeq_stepMode (s : State) (ms : List Micro) : (s.pushSeq ms).stepMode = s.stepMode := rfl
@[simp] theorem pushSeq_tick (s : State) (ms : List Micro) : (s.pushSeq ms).tick = s.tick := rfl
@[simp] theorem pushSeq_ts (s : State) (ms : List Micro) : (s.pushSeq ms).ts = s.ts := rfl
@[simp] theorem pushSeq_wrIdx (s : State) (ms : List Micro) : (s.pushSeq ms).wrIdx = s.wrIdx := rfl
@[simp] theorem pushSeq_rdIdx (s : State) (ms : List Micro) : (s.pushSeq ms).rdIdx = s.rdIdx := rfl
@[simp] theorem pushSeq_prevTs (s : State) (ms : List Micro) : (s.pushSeq ms).prevTs = s.prevTs := rfl
@[simp] theorem pushSeq_prevValid (s : State) (ms : List Micro) : (s.pushSeq ms).prevValid = s.prevValid := rfl
@[simp] theorem pushSeq_acc (s : State) (ms : List Micro) : (s.pushSeq ms).acc = s.acc := rfl
@[simp] theorem pushSeq_bitpos (s : State) (ms : List Micro) : (s.pushSeq ms).bitpos = s.bitpos := rfl
@[simp] theorem pushSeq_cmd (s : State) (ms : List Micro) : (s.pushSeq ms).cmd = s.cmd := rfl
@[simp] theorem pushSeq_frames (s : State) (ms : List Micro) : (s.pushSeq ms).frames = s.frames := rfl
@[simp] theorem pushSeq_nvCursor (s : State) (ms : List Micro) : (s.pushSeq ms).nvCursor = s.nvCursor := rfl
@[simp] theorem pushSeq_res (s : State) (ms : List Micro) : (s.pushSeq ms).res = s.res := rfl
@[simp] theorem pushSeq_sess (s : State) (ms : List Micro) : (s.pushSeq ms).sess = s.sess := rfl
@[simp] theorem pushSeq_ustep (s : State) (ms : List Micro) : (s.pushSeq ms).ustep = ms ++ s.ustep := rfl
@[simp] theorem pushSeq_pvT (s : State) (ms : List Micro) : (s.pushSeq ms).pvT = s.pvT := rfl
@[simp] theorem pushSeq_ce (s : State) (ms : List Micro) : (s.pushSeq ms).ce = s.ce := rfl
@[simp] theorem pushSeq_nvBusy (s : State) (ms : List Micro) : (s.pushSeq ms).nvBusy = s.nvBusy := rfl
@[simp] theorem pushSeq_nvArm (s : State) (ms : List Micro) : (s.pushSeq ms).nvArm = s.nvArm := rfl
@[simp] theorem pushSeq_nvMode (s : State) (ms : List Micro) : (s.pushSeq ms).nvMode = s.nvMode := rfl
@[simp] theorem pushSeq_nvAddr (s : State) (ms : List Micro) : (s.pushSeq ms).nvAddr = s.nvAddr := rfl
@[simp] theorem pushSeq_nvData (s : State) (ms : List Micro) : (s.pushSeq ms).nvData = s.nvData := rfl
@[simp] theorem pushSeq_cond (s : State) (ms : List Micro) : (s.pushSeq ms).cond = s.cond := rfl
@[simp] theorem pushSeq_edgeFullDrops (s : State) (ms : List Micro) : (s.pushSeq ms).edgeFullDrops = s.edgeFullDrops := rfl
@[simp] theorem pushSeq_edgeMaskDrops (s : State) (ms : List Micro) : (s.pushSeq ms).edgeMaskDrops = s.edgeMaskDrops := rfl
@[simp] theorem pushSeq_nvCeilDrops (s : State) (ms : List Micro) : (s.pushSeq ms).nvCeilDrops = s.nvCeilDrops := rfl
@[simp] theorem pushSeq_nv (s : State) (ms : List Micro) : (s.pushSeq ms).nv = s.nv := rfl
@[simp] theorem pushSeq_agenda (s : State) (ms : List Micro) : (s.pushSeq ms).agenda = s.agenda := rfl
@[simp] theorem pushSeq_rota (s : State) (ms : List Micro) : (s.pushSeq ms).rota = s.rota := rfl
@[simp] theorem pushSeq_freeCtr (s : State) (ms : List Micro) : (s.pushSeq ms).freeCtr = s.freeCtr := rfl
@[simp] theorem pushSeq_hostData (s : State) (ms : List Micro) : (s.pushSeq ms).hostData = s.hostData := rfl

@[simp] theorem dropFull_cfg (s : State) : (dropFull s).cfg = s.cfg := rfl
@[simp] theorem dropFull_stepMode (s : State) : (dropFull s).stepMode = s.stepMode := rfl
@[simp] theorem dropFull_tick (s : State) : (dropFull s).tick = s.tick := rfl
@[simp] theorem dropFull_ts (s : State) : (dropFull s).ts = s.ts := rfl
@[simp] theorem dropFull_wrIdx (s : State) : (dropFull s).wrIdx = s.wrIdx := rfl
@[simp] theorem dropFull_rdIdx (s : State) : (dropFull s).rdIdx = s.rdIdx := rfl
@[simp] theorem dropFull_prevTs (s : State) : (dropFull s).prevTs = s.prevTs := rfl
@[simp] theorem dropFull_prevValid (s : State) : (dropFull s).prevValid = s.prevValid := rfl
@[simp] theorem dropFull_acc (s : State) : (dropFull s).acc = s.acc := rfl
@[simp] theorem dropFull_bitpos (s : State) : (dropFull s).bitpos = s.bitpos := rfl
@[simp] theorem dropFull_cmd (s : State) : (dropFull s).cmd = s.cmd := rfl
@[simp] theorem dropFull_frames (s : State) : (dropFull s).frames = s.frames := rfl
@[simp] theorem dropFull_nvCursor (s : State) : (dropFull s).nvCursor = s.nvCursor := rfl
@[simp] theorem dropFull_res (s : State) : (dropFull s).res = s.res := rfl
@[simp] theorem dropFull_sess (s : State) : (dropFull s).sess = s.sess := rfl
@[simp] theorem dropFull_ustep (s : State) : (dropFull s).ustep = s.ustep := rfl
@[simp] theorem dropFull_pvT (s : State) : (dropFull s).pvT = s.pvT := rfl
@[simp] theorem dropFull_ce (s : State) : (dropFull s).ce = s.ce := rfl
@[simp] theorem dropFull_nvBusy (s : State) : (dropFull s).nvBusy = s.nvBusy := rfl
@[simp] theorem dropFull_nvArm (s : State) : (dropFull s).nvArm = s.nvArm := rfl
@[simp] theorem dropFull_nvMode (s : State) : (dropFull s).nvMode = s.nvMode := rfl
@[simp] theorem dropFull_nvAddr (s : State) : (dropFull s).nvAddr = s.nvAddr := rfl
@[simp] theorem dropFull_nvData (s : State) : (dropFull s).nvData = s.nvData := rfl
@[simp] theorem dropFull_cond (s : State) : (dropFull s).cond = setCondBit s.cond .edgeFull := rfl
@[simp] theorem dropFull_edgeFullDrops (s : State) : (dropFull s).edgeFullDrops = satInc s.edgeFullDrops := rfl
@[simp] theorem dropFull_edgeMaskDrops (s : State) : (dropFull s).edgeMaskDrops = s.edgeMaskDrops := rfl
@[simp] theorem dropFull_nvCeilDrops (s : State) : (dropFull s).nvCeilDrops = s.nvCeilDrops := rfl
@[simp] theorem dropFull_nv (s : State) : (dropFull s).nv = s.nv := rfl
@[simp] theorem dropFull_agenda (s : State) : (dropFull s).agenda = s.agenda := rfl
@[simp] theorem dropFull_rota (s : State) : (dropFull s).rota = s.rota := rfl
@[simp] theorem dropFull_freeCtr (s : State) : (dropFull s).freeCtr = s.freeCtr := rfl
@[simp] theorem dropFull_hostData (s : State) : (dropFull s).hostData = s.hostData := rfl

@[simp] theorem dropMasked_cfg (s : State) : (dropMasked s).cfg = s.cfg := rfl
@[simp] theorem dropMasked_stepMode (s : State) : (dropMasked s).stepMode = s.stepMode := rfl
@[simp] theorem dropMasked_tick (s : State) : (dropMasked s).tick = s.tick := rfl
@[simp] theorem dropMasked_ts (s : State) : (dropMasked s).ts = s.ts := rfl
@[simp] theorem dropMasked_wrIdx (s : State) : (dropMasked s).wrIdx = s.wrIdx := rfl
@[simp] theorem dropMasked_rdIdx (s : State) : (dropMasked s).rdIdx = s.rdIdx := rfl
@[simp] theorem dropMasked_prevTs (s : State) : (dropMasked s).prevTs = s.prevTs := rfl
@[simp] theorem dropMasked_prevValid (s : State) : (dropMasked s).prevValid = s.prevValid := rfl
@[simp] theorem dropMasked_acc (s : State) : (dropMasked s).acc = s.acc := rfl
@[simp] theorem dropMasked_bitpos (s : State) : (dropMasked s).bitpos = s.bitpos := rfl
@[simp] theorem dropMasked_cmd (s : State) : (dropMasked s).cmd = s.cmd := rfl
@[simp] theorem dropMasked_frames (s : State) : (dropMasked s).frames = s.frames := rfl
@[simp] theorem dropMasked_nvCursor (s : State) : (dropMasked s).nvCursor = s.nvCursor := rfl
@[simp] theorem dropMasked_res (s : State) : (dropMasked s).res = s.res := rfl
@[simp] theorem dropMasked_sess (s : State) : (dropMasked s).sess = s.sess := rfl
@[simp] theorem dropMasked_ustep (s : State) : (dropMasked s).ustep = s.ustep := rfl
@[simp] theorem dropMasked_pvT (s : State) : (dropMasked s).pvT = s.pvT := rfl
@[simp] theorem dropMasked_ce (s : State) : (dropMasked s).ce = s.ce := rfl
@[simp] theorem dropMasked_nvBusy (s : State) : (dropMasked s).nvBusy = s.nvBusy := rfl
@[simp] theorem dropMasked_nvArm (s : State) : (dropMasked s).nvArm = s.nvArm := rfl
@[simp] theorem dropMasked_nvMode (s : State) : (dropMasked s).nvMode = s.nvMode := rfl
@[simp] theorem dropMasked_nvAddr (s : State) : (dropMasked s).nvAddr = s.nvAddr := rfl
@[simp] theorem dropMasked_nvData (s : State) : (dropMasked s).nvData = s.nvData := rfl
@[simp] theorem dropMasked_cond (s : State) : (dropMasked s).cond = setCondBit s.cond .edgeMasked := rfl
@[simp] theorem dropMasked_edgeFullDrops (s : State) : (dropMasked s).edgeFullDrops = s.edgeFullDrops := rfl
@[simp] theorem dropMasked_edgeMaskDrops (s : State) : (dropMasked s).edgeMaskDrops = satInc s.edgeMaskDrops := rfl
@[simp] theorem dropMasked_nvCeilDrops (s : State) : (dropMasked s).nvCeilDrops = s.nvCeilDrops := rfl
@[simp] theorem dropMasked_nv (s : State) : (dropMasked s).nv = s.nv := rfl
@[simp] theorem dropMasked_agenda (s : State) : (dropMasked s).agenda = s.agenda := rfl
@[simp] theorem dropMasked_rota (s : State) : (dropMasked s).rota = s.rota := rfl
@[simp] theorem dropMasked_freeCtr (s : State) : (dropMasked s).freeCtr = s.freeCtr := rfl
@[simp] theorem dropMasked_hostData (s : State) : (dropMasked s).hostData = s.hostData := rfl

@[simp] theorem dropCeil_cfg (s : State) : (dropCeil s).cfg = s.cfg := rfl
@[simp] theorem dropCeil_stepMode (s : State) : (dropCeil s).stepMode = s.stepMode := rfl
@[simp] theorem dropCeil_tick (s : State) : (dropCeil s).tick = s.tick := rfl
@[simp] theorem dropCeil_ts (s : State) : (dropCeil s).ts = s.ts := rfl
@[simp] theorem dropCeil_wrIdx (s : State) : (dropCeil s).wrIdx = s.wrIdx := rfl
@[simp] theorem dropCeil_rdIdx (s : State) : (dropCeil s).rdIdx = s.rdIdx := rfl
@[simp] theorem dropCeil_prevTs (s : State) : (dropCeil s).prevTs = s.prevTs := rfl
@[simp] theorem dropCeil_prevValid (s : State) : (dropCeil s).prevValid = s.prevValid := rfl
@[simp] theorem dropCeil_acc (s : State) : (dropCeil s).acc = s.acc := rfl
@[simp] theorem dropCeil_bitpos (s : State) : (dropCeil s).bitpos = s.bitpos := rfl
@[simp] theorem dropCeil_cmd (s : State) : (dropCeil s).cmd = s.cmd := rfl
@[simp] theorem dropCeil_frames (s : State) : (dropCeil s).frames = s.frames := rfl
@[simp] theorem dropCeil_nvCursor (s : State) : (dropCeil s).nvCursor = s.nvCursor := rfl
@[simp] theorem dropCeil_res (s : State) : (dropCeil s).res = s.res := rfl
@[simp] theorem dropCeil_sess (s : State) : (dropCeil s).sess = s.sess := rfl
@[simp] theorem dropCeil_ustep (s : State) : (dropCeil s).ustep = s.ustep := rfl
@[simp] theorem dropCeil_pvT (s : State) : (dropCeil s).pvT = s.pvT := rfl
@[simp] theorem dropCeil_ce (s : State) : (dropCeil s).ce = s.ce := rfl
@[simp] theorem dropCeil_nvBusy (s : State) : (dropCeil s).nvBusy = s.nvBusy := rfl
@[simp] theorem dropCeil_nvArm (s : State) : (dropCeil s).nvArm = s.nvArm := rfl
@[simp] theorem dropCeil_nvMode (s : State) : (dropCeil s).nvMode = s.nvMode := rfl
@[simp] theorem dropCeil_nvAddr (s : State) : (dropCeil s).nvAddr = s.nvAddr := rfl
@[simp] theorem dropCeil_nvData (s : State) : (dropCeil s).nvData = s.nvData := rfl
@[simp] theorem dropCeil_cond (s : State) : (dropCeil s).cond = setCondBit s.cond .nvCeil := rfl
@[simp] theorem dropCeil_edgeFullDrops (s : State) : (dropCeil s).edgeFullDrops = s.edgeFullDrops := rfl
@[simp] theorem dropCeil_edgeMaskDrops (s : State) : (dropCeil s).edgeMaskDrops = s.edgeMaskDrops := rfl
@[simp] theorem dropCeil_nvCeilDrops (s : State) : (dropCeil s).nvCeilDrops = satInc s.nvCeilDrops := rfl
@[simp] theorem dropCeil_nv (s : State) : (dropCeil s).nv = s.nv := rfl
@[simp] theorem dropCeil_agenda (s : State) : (dropCeil s).agenda = s.agenda := rfl
@[simp] theorem dropCeil_rota (s : State) : (dropCeil s).rota = s.rota := rfl
@[simp] theorem dropCeil_freeCtr (s : State) : (dropCeil s).freeCtr = s.freeCtr := rfl
@[simp] theorem dropCeil_hostData (s : State) : (dropCeil s).hostData = s.hostData := rfl

/-- The decoder's transition touches ACC, BITPOS, CMD and FRAMES only (43_decoder.md). -/
theorem symbolStep_frame (x : Symbol) (s : State) :
    symbolStep x s = { s with
      acc := (symbolStep x s).acc, bitpos := (symbolStep x s).bitpos, cmd := (symbolStep x s).cmd,
      frames := (symbolStep x s).frames } := by
  cases x <;> simp only [symbolStep, symbolLow, symbolHigh, symbolLong, complete, publish] <;>
    split_ifs <;> rfl

/-- Noting a saturation touches COND only (44_recorder.md rule R165). -/
theorem noteSaturation_frame (d : Word) (s : State) :
    noteSaturation d s = { s with cond := (noteSaturation d s).cond } := by
  unfold noteSaturation; split_ifs <;> rfl

/-- Noting an unknown command touches COND only (44_recorder.md rule R168). -/
theorem noteUnknown_frame (s : State) : noteUnknown s = { s with cond := (noteUnknown s).cond } := by
  unfold noteUnknown; split_ifs <;> rfl

@[simp] theorem symbolStep_cfg (x : Symbol) (s : State) : (symbolStep x s).cfg = s.cfg := by
  rw [symbolStep_frame]
@[simp] theorem symbolStep_stepMode (x : Symbol) (s : State) : (symbolStep x s).stepMode = s.stepMode := by
  rw [symbolStep_frame]
@[simp] theorem symbolStep_tick (x : Symbol) (s : State) : (symbolStep x s).tick = s.tick := by
  rw [symbolStep_frame]
@[simp] theorem symbolStep_ts (x : Symbol) (s : State) : (symbolStep x s).ts = s.ts := by
  rw [symbolStep_frame]
@[simp] theorem symbolStep_wrIdx (x : Symbol) (s : State) : (symbolStep x s).wrIdx = s.wrIdx := by
  rw [symbolStep_frame]
@[simp] theorem symbolStep_rdIdx (x : Symbol) (s : State) : (symbolStep x s).rdIdx = s.rdIdx := by
  rw [symbolStep_frame]
@[simp] theorem symbolStep_prevTs (x : Symbol) (s : State) : (symbolStep x s).prevTs = s.prevTs := by
  rw [symbolStep_frame]
@[simp] theorem symbolStep_prevValid (x : Symbol) (s : State) : (symbolStep x s).prevValid = s.prevValid := by
  rw [symbolStep_frame]
@[simp] theorem symbolStep_nvCursor (x : Symbol) (s : State) : (symbolStep x s).nvCursor = s.nvCursor := by
  rw [symbolStep_frame]
@[simp] theorem symbolStep_res (x : Symbol) (s : State) : (symbolStep x s).res = s.res := by
  rw [symbolStep_frame]
@[simp] theorem symbolStep_sess (x : Symbol) (s : State) : (symbolStep x s).sess = s.sess := by
  rw [symbolStep_frame]
@[simp] theorem symbolStep_ustep (x : Symbol) (s : State) : (symbolStep x s).ustep = s.ustep := by
  rw [symbolStep_frame]
@[simp] theorem symbolStep_pvT (x : Symbol) (s : State) : (symbolStep x s).pvT = s.pvT := by
  rw [symbolStep_frame]
@[simp] theorem symbolStep_ce (x : Symbol) (s : State) : (symbolStep x s).ce = s.ce := by
  rw [symbolStep_frame]
@[simp] theorem symbolStep_nvBusy (x : Symbol) (s : State) : (symbolStep x s).nvBusy = s.nvBusy := by
  rw [symbolStep_frame]
@[simp] theorem symbolStep_nvArm (x : Symbol) (s : State) : (symbolStep x s).nvArm = s.nvArm := by
  rw [symbolStep_frame]
@[simp] theorem symbolStep_nvMode (x : Symbol) (s : State) : (symbolStep x s).nvMode = s.nvMode := by
  rw [symbolStep_frame]
@[simp] theorem symbolStep_nvAddr (x : Symbol) (s : State) : (symbolStep x s).nvAddr = s.nvAddr := by
  rw [symbolStep_frame]
@[simp] theorem symbolStep_nvData (x : Symbol) (s : State) : (symbolStep x s).nvData = s.nvData := by
  rw [symbolStep_frame]
@[simp] theorem symbolStep_cond (x : Symbol) (s : State) : (symbolStep x s).cond = s.cond := by
  rw [symbolStep_frame]
@[simp] theorem symbolStep_edgeFullDrops (x : Symbol) (s : State) : (symbolStep x s).edgeFullDrops = s.edgeFullDrops := by
  rw [symbolStep_frame]
@[simp] theorem symbolStep_edgeMaskDrops (x : Symbol) (s : State) : (symbolStep x s).edgeMaskDrops = s.edgeMaskDrops := by
  rw [symbolStep_frame]
@[simp] theorem symbolStep_nvCeilDrops (x : Symbol) (s : State) : (symbolStep x s).nvCeilDrops = s.nvCeilDrops := by
  rw [symbolStep_frame]
@[simp] theorem symbolStep_nv (x : Symbol) (s : State) : (symbolStep x s).nv = s.nv := by
  rw [symbolStep_frame]
@[simp] theorem symbolStep_agenda (x : Symbol) (s : State) : (symbolStep x s).agenda = s.agenda := by
  rw [symbolStep_frame]
@[simp] theorem symbolStep_rota (x : Symbol) (s : State) : (symbolStep x s).rota = s.rota := by
  rw [symbolStep_frame]
@[simp] theorem symbolStep_freeCtr (x : Symbol) (s : State) : (symbolStep x s).freeCtr = s.freeCtr := by
  rw [symbolStep_frame]
@[simp] theorem symbolStep_hostData (x : Symbol) (s : State) : (symbolStep x s).hostData = s.hostData := by
  rw [symbolStep_frame]
@[simp] theorem noteSaturation_cfg (d : Word) (s : State) : (noteSaturation d s).cfg = s.cfg := by
  rw [noteSaturation_frame]
@[simp] theorem noteSaturation_stepMode (d : Word) (s : State) : (noteSaturation d s).stepMode = s.stepMode := by
  rw [noteSaturation_frame]
@[simp] theorem noteSaturation_tick (d : Word) (s : State) : (noteSaturation d s).tick = s.tick := by
  rw [noteSaturation_frame]
@[simp] theorem noteSaturation_ts (d : Word) (s : State) : (noteSaturation d s).ts = s.ts := by
  rw [noteSaturation_frame]
@[simp] theorem noteSaturation_wrIdx (d : Word) (s : State) : (noteSaturation d s).wrIdx = s.wrIdx := by
  rw [noteSaturation_frame]
@[simp] theorem noteSaturation_rdIdx (d : Word) (s : State) : (noteSaturation d s).rdIdx = s.rdIdx := by
  rw [noteSaturation_frame]
@[simp] theorem noteSaturation_prevTs (d : Word) (s : State) : (noteSaturation d s).prevTs = s.prevTs := by
  rw [noteSaturation_frame]
@[simp] theorem noteSaturation_prevValid (d : Word) (s : State) : (noteSaturation d s).prevValid = s.prevValid := by
  rw [noteSaturation_frame]
@[simp] theorem noteSaturation_acc (d : Word) (s : State) : (noteSaturation d s).acc = s.acc := by
  rw [noteSaturation_frame]
@[simp] theorem noteSaturation_bitpos (d : Word) (s : State) : (noteSaturation d s).bitpos = s.bitpos := by
  rw [noteSaturation_frame]
@[simp] theorem noteSaturation_cmd (d : Word) (s : State) : (noteSaturation d s).cmd = s.cmd := by
  rw [noteSaturation_frame]
@[simp] theorem noteSaturation_frames (d : Word) (s : State) : (noteSaturation d s).frames = s.frames := by
  rw [noteSaturation_frame]
@[simp] theorem noteSaturation_nvCursor (d : Word) (s : State) : (noteSaturation d s).nvCursor = s.nvCursor := by
  rw [noteSaturation_frame]
@[simp] theorem noteSaturation_res (d : Word) (s : State) : (noteSaturation d s).res = s.res := by
  rw [noteSaturation_frame]
@[simp] theorem noteSaturation_sess (d : Word) (s : State) : (noteSaturation d s).sess = s.sess := by
  rw [noteSaturation_frame]
@[simp] theorem noteSaturation_ustep (d : Word) (s : State) : (noteSaturation d s).ustep = s.ustep := by
  rw [noteSaturation_frame]
@[simp] theorem noteSaturation_pvT (d : Word) (s : State) : (noteSaturation d s).pvT = s.pvT := by
  rw [noteSaturation_frame]
@[simp] theorem noteSaturation_ce (d : Word) (s : State) : (noteSaturation d s).ce = s.ce := by
  rw [noteSaturation_frame]
@[simp] theorem noteSaturation_nvBusy (d : Word) (s : State) : (noteSaturation d s).nvBusy = s.nvBusy := by
  rw [noteSaturation_frame]
@[simp] theorem noteSaturation_nvArm (d : Word) (s : State) : (noteSaturation d s).nvArm = s.nvArm := by
  rw [noteSaturation_frame]
@[simp] theorem noteSaturation_nvMode (d : Word) (s : State) : (noteSaturation d s).nvMode = s.nvMode := by
  rw [noteSaturation_frame]
@[simp] theorem noteSaturation_nvAddr (d : Word) (s : State) : (noteSaturation d s).nvAddr = s.nvAddr := by
  rw [noteSaturation_frame]
@[simp] theorem noteSaturation_nvData (d : Word) (s : State) : (noteSaturation d s).nvData = s.nvData := by
  rw [noteSaturation_frame]
@[simp] theorem noteSaturation_edgeFullDrops (d : Word) (s : State) : (noteSaturation d s).edgeFullDrops = s.edgeFullDrops := by
  rw [noteSaturation_frame]
@[simp] theorem noteSaturation_edgeMaskDrops (d : Word) (s : State) : (noteSaturation d s).edgeMaskDrops = s.edgeMaskDrops := by
  rw [noteSaturation_frame]
@[simp] theorem noteSaturation_nvCeilDrops (d : Word) (s : State) : (noteSaturation d s).nvCeilDrops = s.nvCeilDrops := by
  rw [noteSaturation_frame]
@[simp] theorem noteSaturation_nv (d : Word) (s : State) : (noteSaturation d s).nv = s.nv := by
  rw [noteSaturation_frame]
@[simp] theorem noteSaturation_agenda (d : Word) (s : State) : (noteSaturation d s).agenda = s.agenda := by
  rw [noteSaturation_frame]
@[simp] theorem noteSaturation_rota (d : Word) (s : State) : (noteSaturation d s).rota = s.rota := by
  rw [noteSaturation_frame]
@[simp] theorem noteSaturation_freeCtr (d : Word) (s : State) : (noteSaturation d s).freeCtr = s.freeCtr := by
  rw [noteSaturation_frame]
@[simp] theorem noteSaturation_hostData (d : Word) (s : State) : (noteSaturation d s).hostData = s.hostData := by
  rw [noteSaturation_frame]
@[simp] theorem noteUnknown_cfg (s : State) : (noteUnknown s).cfg = s.cfg := by
  rw [noteUnknown_frame]
@[simp] theorem noteUnknown_stepMode (s : State) : (noteUnknown s).stepMode = s.stepMode := by
  rw [noteUnknown_frame]
@[simp] theorem noteUnknown_tick (s : State) : (noteUnknown s).tick = s.tick := by
  rw [noteUnknown_frame]
@[simp] theorem noteUnknown_ts (s : State) : (noteUnknown s).ts = s.ts := by
  rw [noteUnknown_frame]
@[simp] theorem noteUnknown_wrIdx (s : State) : (noteUnknown s).wrIdx = s.wrIdx := by
  rw [noteUnknown_frame]
@[simp] theorem noteUnknown_rdIdx (s : State) : (noteUnknown s).rdIdx = s.rdIdx := by
  rw [noteUnknown_frame]
@[simp] theorem noteUnknown_prevTs (s : State) : (noteUnknown s).prevTs = s.prevTs := by
  rw [noteUnknown_frame]
@[simp] theorem noteUnknown_prevValid (s : State) : (noteUnknown s).prevValid = s.prevValid := by
  rw [noteUnknown_frame]
@[simp] theorem noteUnknown_acc (s : State) : (noteUnknown s).acc = s.acc := by
  rw [noteUnknown_frame]
@[simp] theorem noteUnknown_bitpos (s : State) : (noteUnknown s).bitpos = s.bitpos := by
  rw [noteUnknown_frame]
@[simp] theorem noteUnknown_cmd (s : State) : (noteUnknown s).cmd = s.cmd := by
  rw [noteUnknown_frame]
@[simp] theorem noteUnknown_frames (s : State) : (noteUnknown s).frames = s.frames := by
  rw [noteUnknown_frame]
@[simp] theorem noteUnknown_nvCursor (s : State) : (noteUnknown s).nvCursor = s.nvCursor := by
  rw [noteUnknown_frame]
@[simp] theorem noteUnknown_res (s : State) : (noteUnknown s).res = s.res := by
  rw [noteUnknown_frame]
@[simp] theorem noteUnknown_sess (s : State) : (noteUnknown s).sess = s.sess := by
  rw [noteUnknown_frame]
@[simp] theorem noteUnknown_ustep (s : State) : (noteUnknown s).ustep = s.ustep := by
  rw [noteUnknown_frame]
@[simp] theorem noteUnknown_pvT (s : State) : (noteUnknown s).pvT = s.pvT := by
  rw [noteUnknown_frame]
@[simp] theorem noteUnknown_ce (s : State) : (noteUnknown s).ce = s.ce := by
  rw [noteUnknown_frame]
@[simp] theorem noteUnknown_nvBusy (s : State) : (noteUnknown s).nvBusy = s.nvBusy := by
  rw [noteUnknown_frame]
@[simp] theorem noteUnknown_nvArm (s : State) : (noteUnknown s).nvArm = s.nvArm := by
  rw [noteUnknown_frame]
@[simp] theorem noteUnknown_nvMode (s : State) : (noteUnknown s).nvMode = s.nvMode := by
  rw [noteUnknown_frame]
@[simp] theorem noteUnknown_nvAddr (s : State) : (noteUnknown s).nvAddr = s.nvAddr := by
  rw [noteUnknown_frame]
@[simp] theorem noteUnknown_nvData (s : State) : (noteUnknown s).nvData = s.nvData := by
  rw [noteUnknown_frame]
@[simp] theorem noteUnknown_edgeFullDrops (s : State) : (noteUnknown s).edgeFullDrops = s.edgeFullDrops := by
  rw [noteUnknown_frame]
@[simp] theorem noteUnknown_edgeMaskDrops (s : State) : (noteUnknown s).edgeMaskDrops = s.edgeMaskDrops := by
  rw [noteUnknown_frame]
@[simp] theorem noteUnknown_nvCeilDrops (s : State) : (noteUnknown s).nvCeilDrops = s.nvCeilDrops := by
  rw [noteUnknown_frame]
@[simp] theorem noteUnknown_nv (s : State) : (noteUnknown s).nv = s.nv := by
  rw [noteUnknown_frame]
@[simp] theorem noteUnknown_agenda (s : State) : (noteUnknown s).agenda = s.agenda := by
  rw [noteUnknown_frame]
@[simp] theorem noteUnknown_rota (s : State) : (noteUnknown s).rota = s.rota := by
  rw [noteUnknown_frame]
@[simp] theorem noteUnknown_freeCtr (s : State) : (noteUnknown s).freeCtr = s.freeCtr := by
  rw [noteUnknown_frame]
@[simp] theorem noteUnknown_hostData (s : State) : (noteUnknown s).hostData = s.hostData := by
  rw [noteUnknown_frame]

@[simp] theorem reset_cfg : State.reset.cfg = Config.testcfg := rfl
@[simp] theorem reset_agenda : State.reset.agenda = [] := rfl
@[simp] theorem reset_ustep : State.reset.ustep = [] := rfl

/-- Reset memory is canonical. -/
theorem reset_memory_wf : Memory.wf ceiling State.reset.nv = true ∧ Memory.wf 100 State.reset.ts = true :=
  ⟨rfl, rfl⟩

end Sys2Proof.Machine
end

