-- ==== Sys2Proof/Laws/Exec.lean ====
section
/-! SUPPORT. What `exec` can do, said once: it answers a next state, it never touches the configuration or the
model's own fields, and it only ever puts steps in front of USTEP. -/

namespace Sys2Proof.Machine

/-- The state an operation answers with. -/
def after (i : Instr) (s : State) : State :=
  match exec i s with
  | .next t => t
  | .fault _ => s
  | .refused _ => s

/-- Every operation answers a next state. -/
theorem exec_eq (i : Instr) (s : State) : exec i s = .next (after i s) := by
  cases i <;> rfl

/-- The inversion of `exec`. -/
theorem exec_next_iff (i : Instr) (s t : State) : exec i s = .next t ↔ t = after i s := by
  rw [exec_eq]
  simp [eq_comm]

/-- What an operation leaves to be run in front of what SEQ already had to do. -/
def expansion (i : Instr) (s : State) : List Micro :=
  match i with
  | .wbyte b =>
    if s.nvCursor.toNat < ceiling then byteWrite (s.nvCursor.extractLsb' 0 8) (byteArg b s) else []
  | .record d => writeString (fmt (tickArg d s))
  | .whdr => writeString s.cfg.header
  | .wtrl => writeString s.cfg.trailer
  | .wlbl => writeString (label s.cfg s.cmd)
  | .nvWait => if s.nvBusy then [.op .nvWait] else []
  | .sInit => if s.sess = .init then initSeq else []
  | .sPoll => if s.sess = .collecting ∧ s.rdIdx.toNat ≠ s.cfg.cap then pollSeq else []
  | .sClose => if s.sess = .closing then closeSeq else []
  | _ => []

section
variable (i : Instr) (s : State)

/-- An operation only puts its expansion in front of USTEP (30_encoding.md rule R99). -/
theorem after_ustep : (after i s).ustep = expansion i s ++ s.ustep := by
  cases i <;>
    simp only [after, exec, execTick, execEdge, execNvdone, execNow, execHasp, execPeek, execAdv, execMask,
      execUnmask, execDelta, execClassify, execDecShort, execDecLow, execDecHigh, execDecLong, execDecR,
      execWbyte, execSeek, execRecord, execWhdr, execWtrl, execWlbl, execNvWait, execNvMode, execNvLoad,
      execNvArm, execNvCommit, execSInit, execSPoll, execSClose, execSIdle, expansion] <;>
    (try split_ifs) <;> simp_all

/-- The configuration is nobody's to write (10_state.md rule R45). -/
@[simp] theorem after_cfg : (after i s).cfg = s.cfg := by
  cases i <;>
    simp only [after, exec, execTick, execEdge, execNvdone, execNow, execHasp, execPeek, execAdv, execMask,
      execUnmask, execDelta, execClassify, execDecShort, execDecLow, execDecHigh, execDecLong, execDecR,
      execWbyte, execSeek, execRecord, execWhdr, execWtrl, execWlbl, execNvWait, execNvMode, execNvLoad,
      execNvArm, execNvCommit, execSInit, execSPoll, execSClose, execSIdle] <;>
    (try split_ifs) <;> simp

/-- The strap is sampled at reset only (70_reset_and_hazards.md rule R240). -/
@[simp] theorem after_stepMode : (after i s).stepMode = s.stepMode := by
  cases i <;>
    simp only [after, exec, execTick, execEdge, execNvdone, execNow, execHasp, execPeek, execAdv, execMask,
      execUnmask, execDelta, execClassify, execDecShort, execDecLow, execDecHigh, execDecLong, execDecR,
      execWbyte, execSeek, execRecord, execWhdr, execWtrl, execWlbl, execNvWait, execNvMode, execNvLoad,
      execNvArm, execNvCommit, execSInit, execSPoll, execSClose, execSIdle] <;>
    (try split_ifs) <;> simp

/-- PV_T is written by the drain sequence, not by an operation (45_session.md rule R188). -/
@[simp] theorem after_pvT : (after i s).pvT = s.pvT := by
  cases i <;>
    simp only [after, exec, execTick, execEdge, execNvdone, execNow, execHasp, execPeek, execAdv, execMask,
      execUnmask, execDelta, execClassify, execDecShort, execDecLow, execDecHigh, execDecLong, execDecR,
      execWbyte, execSeek, execRecord, execWhdr, execWtrl, execWlbl, execNvWait, execNvMode, execNvLoad,
      execNvArm, execNvCommit, execSInit, execSPoll, execSClose, execSIdle] <;>
    (try split_ifs) <;> simp

/-- The agenda is the environment's. -/
@[simp] theorem after_agenda : (after i s).agenda = s.agenda := by
  cases i <;>
    simp only [after, exec, execTick, execEdge, execNvdone, execNow, execHasp, execPeek, execAdv, execMask,
      execUnmask, execDelta, execClassify, execDecShort, execDecLow, execDecHigh, execDecLong, execDecR,
      execWbyte, execSeek, execRecord, execWhdr, execWtrl, execWlbl, execNvWait, execNvMode, execNvLoad,
      execNvArm, execNvCommit, execSInit, execSPoll, execSClose, execSIdle] <;>
    (try split_ifs) <;> simp

/-- Who moves next is no operation's to say. -/
@[simp] theorem after_rota : (after i s).rota = s.rota := by
  cases i <;>
    simp only [after, exec, execTick, execEdge, execNvdone, execNow, execHasp, execPeek, execAdv, execMask,
      execUnmask, execDelta, execClassify, execDecShort, execDecLow, execDecHigh, execDecLong, execDecR,
      execWbyte, execSeek, execRecord, execWhdr, execWtrl, execWlbl, execNvWait, execNvMode, execNvLoad,
      execNvArm, execNvCommit, execSInit, execSPoll, execSClose, execSIdle] <;>
    (try split_ifs) <;> simp

/-- No operation draws a free value. -/
@[simp] theorem after_freeCtr : (after i s).freeCtr = s.freeCtr := by
  cases i <;>
    simp only [after, exec, execTick, execEdge, execNvdone, execNow, execHasp, execPeek, execAdv, execMask,
      execUnmask, execDelta, execClassify, execDecShort, execDecLow, execDecHigh, execDecLong, execDecR,
      execWbyte, execSeek, execRecord, execWhdr, execWtrl, execWlbl, execNvWait, execNvMode, execNvLoad,
      execNvArm, execNvCommit, execSInit, execSPoll, execSClose, execSIdle] <;>
    (try split_ifs) <;> simp

/-- No operation answers a host read. -/
@[simp] theorem after_hostData : (after i s).hostData = s.hostData := by
  cases i <;>
    simp only [after, exec, execTick, execEdge, execNvdone, execNow, execHasp, execPeek, execAdv, execMask,
      execUnmask, execDelta, execClassify, execDecShort, execDecLow, execDecHigh, execDecLong, execDecR,
      execWbyte, execSeek, execRecord, execWhdr, execWtrl, execWlbl, execNvWait, execNvMode, execNvLoad,
      execNvArm, execNvCommit, execSInit, execSPoll, execSClose, execSIdle] <;>
    (try split_ifs) <;> simp

end

end Sys2Proof.Machine
end

