-- ==== Sys2Proof/Laws/Memory.lean ====
section
/-! SUPPORT. The laws of a memory: read after write, the canonical form, and that equal reads mean equal
lists; then the same for TS and NV. -/

namespace Sys2Proof

variable {w : Nat}

@[simp] theorem Memory.read?_nil (a : Nat) : Memory.read? ([] : List (Nat × BitVec w)) a = none := rfl

@[simp] theorem Memory.read?_write_same (m : List (Nat × BitVec w)) (a : Nat) (v : BitVec w) :
    Memory.read? (Memory.write m a v) a = some v := by
  induction m with
  | nil => simp [Memory.write, Memory.read?]
  | cons p m ih =>
    obtain ⟨k, u⟩ := p
    simp only [Memory.write]
    split_ifs with h₁ h₂
    · simp [Memory.read?]
    · simp [Memory.read?]
    · have : k ≠ a := fun h => h₂ h.symm
      simp [Memory.read?, this, ih]

theorem Memory.read?_write_other (m : List (Nat × BitVec w)) {a b : Nat} (v : BitVec w) (h : b ≠ a) :
    Memory.read? (Memory.write m a v) b = Memory.read? m b := by
  induction m with
  | nil => simp [Memory.write, Memory.read?, h.symm]
  | cons p m ih =>
    obtain ⟨k, u⟩ := p
    simp only [Memory.write]
    split_ifs with h₁ h₂
    · simp [Memory.read?, h.symm]
    · subst h₂; simp [Memory.read?, h.symm]
    · by_cases hk : k = b <;> simp [Memory.read?, hk, ih]

theorem Memory.read?_write (m : List (Nat × BitVec w)) (a b : Nat) (v : BitVec w) :
    Memory.read? (Memory.write m a v) b = if b = a then some v else Memory.read? m b := by
  split_ifs with h
  · subst h; simp
  · exact Memory.read?_write_other m v h

theorem Memory.wfFrom_weaken {size lo lo' : Nat} {m : List (Nat × BitVec w)} (hlo : lo' ≤ lo)
    (h : Memory.wfFrom size lo m = true) : Memory.wfFrom size lo' m = true := by
  cases m with
  | nil => rfl
  | cons p m =>
    obtain ⟨k, u⟩ := p
    simp only [Memory.wfFrom, Bool.and_eq_true, decide_eq_true_eq] at h ⊢
    exact ⟨⟨hlo.trans h.1.1, h.1.2⟩, h.2⟩

theorem Memory.wfFrom_write {size : Nat} (m : List (Nat × BitVec w)) (lo a : Nat) (v : BitVec w)
    (ha : a < size) (hlo : lo ≤ a) (h : Memory.wfFrom size lo m = true) :
    Memory.wfFrom size lo (Memory.write m a v) = true := by
  induction m generalizing lo with
  | nil => simp [Memory.write, Memory.wfFrom, ha, hlo]
  | cons p m ih =>
    obtain ⟨k, u⟩ := p
    simp only [Memory.wfFrom, Bool.and_eq_true, decide_eq_true_eq] at h
    simp only [Memory.write]
    split_ifs with h₁ h₂
    · simp [Memory.wfFrom, ha, hlo, h.1.2, h.2]; omega
    · subst h₂; simp [Memory.wfFrom, ha, hlo, h.2]
    · simp [Memory.wfFrom, h.1.1, h.1.2, ih (k + 1) (by omega) h.2]

/-- Every write keeps the canonical form. -/
theorem Memory.wf_write {size : Nat} (m : List (Nat × BitVec w)) {a : Nat} (v : BitVec w)
    (ha : a < size) (h : Memory.wf size m = true) : Memory.wf size (Memory.write m a v) = true :=
  Memory.wfFrom_write m 0 a v ha (Nat.zero_le a) h

@[simp] theorem Memory.wf_nil (size : Nat) : Memory.wf size ([] : List (Nat × BitVec w)) = true := rfl

theorem Memory.read?_below {size : Nat} (m : List (Nat × BitVec w)) {lo a : Nat} (ha : a < lo)
    (h : Memory.wfFrom size lo m = true) : Memory.read? m a = none := by
  induction m generalizing lo with
  | nil => rfl
  | cons p m ih =>
    obtain ⟨k, u⟩ := p
    simp only [Memory.wfFrom, Bool.and_eq_true, decide_eq_true_eq] at h
    have hk : k ≠ a := by omega
    simp [Memory.read?, hk, ih (lo := k + 1) (by omega) h.2]

theorem Memory.read?_above {size : Nat} (m : List (Nat × BitVec w)) {lo a : Nat} (ha : size ≤ a)
    (h : Memory.wfFrom size lo m = true) : Memory.read? m a = none := by
  induction m generalizing lo with
  | nil => rfl
  | cons p m ih =>
    obtain ⟨k, u⟩ := p
    simp only [Memory.wfFrom, Bool.and_eq_true, decide_eq_true_eq] at h
    have hk : k ≠ a := by omega
    simp [Memory.read?, hk, ih (lo := k + 1) h.2]

/-- Two canonical memories that read alike everywhere are the same list. -/
theorem Memory.eq_of_reads {size : Nat} (m₁ m₂ : List (Nat × BitVec w)) (lo : Nat)
    (h₁ : Memory.wfFrom size lo m₁ = true) (h₂ : Memory.wfFrom size lo m₂ = true)
    (h : ∀ a, Memory.read? m₁ a = Memory.read? m₂ a) : m₁ = m₂ := by
  induction m₁ generalizing m₂ lo with
  | nil =>
    cases m₂ with
    | nil => rfl
    | cons p m₂ =>
      obtain ⟨k, u⟩ := p
      have := h k
      simp [Memory.read?] at this
  | cons p m₁ ih =>
    obtain ⟨k, u⟩ := p
    cases m₂ with
    | nil =>
      have := h k
      simp [Memory.read?] at this
    | cons q m₂ =>
      obtain ⟨k', u'⟩ := q
      simp only [Memory.wfFrom, Bool.and_eq_true, decide_eq_true_eq] at h₁ h₂
      have hk : k = k' := by
        by_contra hne
        rcases Nat.lt_or_gt_of_ne hne with hlt | hlt
        · have := h k
          have hb : Memory.read? m₂ k = none := Memory.read?_below m₂ (by omega) h₂.2
          simp [Memory.read?, hb, show k' ≠ k by omega] at this
        · have := h k'
          have hb : Memory.read? m₁ k' = none := Memory.read?_below m₁ (by omega) h₁.2
          simp [Memory.read?, hb, show k ≠ k' by omega] at this
      subst hk
      have hu : u = u' := by simpa [Memory.read?] using h k
      subst hu
      have hm : m₁ = m₂ := by
        refine ih m₂ (k + 1) h₁.2 h₂.2 fun a => ?_
        by_cases ha : k = a
        · subst ha
          rw [Memory.read?_below m₁ (Nat.lt_succ_self _) h₁.2,
            Memory.read?_below m₂ (Nat.lt_succ_self _) h₂.2]
        · simpa [Memory.read?, ha] using h a
      rw [hm]

namespace Machine

@[simp] theorem tsRead_tsAppend_same (s : State) : s.tsAppend.tsRead s.wrIdx.toNat = s.tick := by
  simp [State.tsRead, State.tsAppend]

theorem tsRead_tsAppend_other (s : State) {i : Nat} (h : i ≠ s.wrIdx.toNat) :
    s.tsAppend.tsRead i = s.tsRead i := by
  simp [State.tsRead, State.tsAppend, Memory.read?_write_other _ _ h]

@[simp] theorem nvRead_nvProgram_same (s : State) : s.nvProgram.nvRead s.nvAddr.toNat = s.nvData := by
  simp [State.nvRead, State.nvProgram]

theorem nvRead_nvProgram_other (s : State) {a : Nat} (h : a ≠ s.nvAddr.toNat) :
    s.nvProgram.nvRead a = s.nvRead a := by
  simp [State.nvRead, State.nvProgram, Memory.read?_write_other _ _ h]

end Machine

end Sys2Proof
end

