-- ==== Sys2Proof/Laws/PerInstr.lean ====
section
/-! SUPPORT. Statements about every operation as syntax, one lemma per constructor of `Instr`: RoundTrip (decoding
the operation's word gives it back) and TableRow (the operation's word belongs to its row of
spec/opcode_table.json, and the row is in the table). -/

namespace Sys2Proof.Laws

/-- The opcode map on a plain word. -/
theorem decodePlain (op : BitVec 8) (h : 3 < op.toNat) :
    decode (encodePlain op) = decodeSeq (encodePlain op) := decode_make false op 0#16 h

/-- The opcode map on a word with an operand, at every value of the operand. -/
theorem decodeOperand (op : BitVec 8) (h : 3 < op.toNat) (o : Operand) :
    decode (encodeOperand op o) = decodeSeq (encodeOperand op o) := by
  cases o with
  | imm v => exact decode_make false op v h
  | res => exact decode_make true op 0#16 h

/-- The fields of a word with an operand. -/
theorem encodeOperand_op (op : BitVec 8) (o : Operand) : OpWord.op (encodeOperand op o) = op := by
  cases o <;> simp [encodeOperand]

theorem encodeOperand_operand (op : BitVec 8) (o : Operand) :
    OpWord.operand (encodeOperand op o) = o := by
  cases o <;> simp [encodeOperand]

/-- A word made of any operand agrees with the canonical word on Z and op. -/
theorem encodeOperand_zop (op : BitVec 8) (o : Operand) :
    encodeOperand op o &&& maskZOp = OpWord.make false op 0#16 := by
  have key : ∀ (r : Bool) (v : Word), OpWord.make r op v &&& maskZOp = OpWord.make false op 0#16 := by
    intro r v
    apply BitVec.eq_of_getLsbD_eq
    intro i hi
    interval_cases i <;> simp [OpWord.make, maskZOp]
  cases o with
  | imm v => exact key false v
  | res => exact key true 0#16

/-- Decoding the word of an operation gives the operation back. -/
def RoundTrip.Statement (i : Instr) : Prop := decode (encode i) = some i

/-- The word of an operation belongs to the operation's row, a row of the table. -/
def TableRow.Statement (i : Instr) : Prop :=
  i.row ∈ opcodeTable ∧ i.row.matches (encode i) = true

theorem RoundTrip.tick : RoundTrip.Statement .tick :=
  (by decide : decode (encode .tick) = some .tick)

theorem RoundTrip.edge : RoundTrip.Statement .edge :=
  (by decide : decode (encode .edge) = some .edge)

theorem RoundTrip.nvdone : RoundTrip.Statement .nvdone :=
  (by decide : decode (encode .nvdone) = some .nvdone)

theorem RoundTrip.now : RoundTrip.Statement .now :=
  (by decide : decode (encode .now) = some .now)

theorem RoundTrip.hasp : RoundTrip.Statement .hasp :=
  (by decide : decode (encode .hasp) = some .hasp)

theorem RoundTrip.peek : RoundTrip.Statement .peek :=
  (by decide : decode (encode .peek) = some .peek)

theorem RoundTrip.adv : RoundTrip.Statement .adv :=
  (by decide : decode (encode .adv) = some .adv)

theorem RoundTrip.mask : RoundTrip.Statement .mask :=
  (by decide : decode (encode .mask) = some .mask)

theorem RoundTrip.unmask : RoundTrip.Statement .unmask :=
  (by decide : decode (encode .unmask) = some .unmask)

theorem RoundTrip.delta (t : Operand) : RoundTrip.Statement (.delta t) := by
  have h := decodeOperand (OpWord.op (encode (.delta .res))) (by decide) t
  simpa [RoundTrip.Statement, encode, decodeSeq, encodeOperand_op, encodeOperand_operand] using h

theorem RoundTrip.classify (d : Operand) : RoundTrip.Statement (.classify d) := by
  have h := decodeOperand (OpWord.op (encode (.classify .res))) (by decide) d
  simpa [RoundTrip.Statement, encode, decodeSeq, encodeOperand_op, encodeOperand_operand] using h

theorem RoundTrip.decShort : RoundTrip.Statement .decShort :=
  (by decide : decode (encode .decShort) = some .decShort)

theorem RoundTrip.decLow : RoundTrip.Statement .decLow :=
  (by decide : decode (encode .decLow) = some .decLow)

theorem RoundTrip.decHigh : RoundTrip.Statement .decHigh :=
  (by decide : decode (encode .decHigh) = some .decHigh)

theorem RoundTrip.decLong : RoundTrip.Statement .decLong :=
  (by decide : decode (encode .decLong) = some .decLong)

theorem RoundTrip.decR : RoundTrip.Statement .decR :=
  (by decide : decode (encode .decR) = some .decR)

theorem RoundTrip.wbyte (b : Operand) : RoundTrip.Statement (.wbyte b) := by
  have h := decodeOperand (OpWord.op (encode (.wbyte .res))) (by decide) b
  simpa [RoundTrip.Statement, encode, decodeSeq, encodeOperand_op, encodeOperand_operand] using h

theorem RoundTrip.seek (a : Operand) : RoundTrip.Statement (.seek a) := by
  have h := decodeOperand (OpWord.op (encode (.seek .res))) (by decide) a
  simpa [RoundTrip.Statement, encode, decodeSeq, encodeOperand_op, encodeOperand_operand] using h

theorem RoundTrip.record (d : Operand) : RoundTrip.Statement (.record d) := by
  have h := decodeOperand (OpWord.op (encode (.record .res))) (by decide) d
  simpa [RoundTrip.Statement, encode, decodeSeq, encodeOperand_op, encodeOperand_operand] using h

theorem RoundTrip.whdr : RoundTrip.Statement .whdr :=
  (by decide : decode (encode .whdr) = some .whdr)

theorem RoundTrip.wtrl : RoundTrip.Statement .wtrl :=
  (by decide : decode (encode .wtrl) = some .wtrl)

theorem RoundTrip.wlbl : RoundTrip.Statement .wlbl :=
  (by decide : decode (encode .wlbl) = some .wlbl)

theorem RoundTrip.nvWait : RoundTrip.Statement .nvWait :=
  (by decide : decode (encode .nvWait) = some .nvWait)

theorem RoundTrip.nvMode : RoundTrip.Statement .nvMode :=
  (by decide : decode (encode .nvMode) = some .nvMode)

theorem RoundTrip.nvLoad (ad : Operand) : RoundTrip.Statement (.nvLoad ad) := by
  have h := decodeOperand (OpWord.op (encode (.nvLoad .res))) (by decide) ad
  simpa [RoundTrip.Statement, encode, decodeSeq, encodeOperand_op, encodeOperand_operand] using h

theorem RoundTrip.nvArm : RoundTrip.Statement .nvArm :=
  (by decide : decode (encode .nvArm) = some .nvArm)

theorem RoundTrip.nvCommit : RoundTrip.Statement .nvCommit :=
  (by decide : decode (encode .nvCommit) = some .nvCommit)

theorem RoundTrip.sInit : RoundTrip.Statement .sInit :=
  (by decide : decode (encode .sInit) = some .sInit)

theorem RoundTrip.sPoll : RoundTrip.Statement .sPoll :=
  (by decide : decode (encode .sPoll) = some .sPoll)

theorem RoundTrip.sClose : RoundTrip.Statement .sClose :=
  (by decide : decode (encode .sClose) = some .sClose)

theorem RoundTrip.sIdle : RoundTrip.Statement .sIdle :=
  (by decide : decode (encode .sIdle) = some .sIdle)

theorem TableRow.tick : TableRow.Statement .tick := by
  unfold TableRow.Statement; decide

theorem TableRow.edge : TableRow.Statement .edge := by
  unfold TableRow.Statement; decide

theorem TableRow.nvdone : TableRow.Statement .nvdone := by
  unfold TableRow.Statement; decide

theorem TableRow.now : TableRow.Statement .now := by
  unfold TableRow.Statement; decide

theorem TableRow.hasp : TableRow.Statement .hasp := by
  unfold TableRow.Statement; decide

theorem TableRow.peek : TableRow.Statement .peek := by
  unfold TableRow.Statement; decide

theorem TableRow.adv : TableRow.Statement .adv := by
  unfold TableRow.Statement; decide

theorem TableRow.mask : TableRow.Statement .mask := by
  unfold TableRow.Statement; decide

theorem TableRow.unmask : TableRow.Statement .unmask := by
  unfold TableRow.Statement; decide

theorem TableRow.delta (t : Operand) : TableRow.Statement (.delta t) := by
  refine ⟨(by decide : Instr.row (.delta .res) ∈ opcodeTable), ?_⟩
  simp only [Row.matches, decide_eq_true_eq, Instr.row, encode, encodeOperand_zop]
  decide

theorem TableRow.classify (d : Operand) : TableRow.Statement (.classify d) := by
  refine ⟨(by decide : Instr.row (.classify .res) ∈ opcodeTable), ?_⟩
  simp only [Row.matches, decide_eq_true_eq, Instr.row, encode, encodeOperand_zop]
  decide

theorem TableRow.decShort : TableRow.Statement .decShort := by
  unfold TableRow.Statement; decide

theorem TableRow.decLow : TableRow.Statement .decLow := by
  unfold TableRow.Statement; decide

theorem TableRow.decHigh : TableRow.Statement .decHigh := by
  unfold TableRow.Statement; decide

theorem TableRow.decLong : TableRow.Statement .decLong := by
  unfold TableRow.Statement; decide

theorem TableRow.decR : TableRow.Statement .decR := by
  unfold TableRow.Statement; decide

theorem TableRow.wbyte (b : Operand) : TableRow.Statement (.wbyte b) := by
  refine ⟨(by decide : Instr.row (.wbyte .res) ∈ opcodeTable), ?_⟩
  simp only [Row.matches, decide_eq_true_eq, Instr.row, encode, encodeOperand_zop]
  decide

theorem TableRow.seek (a : Operand) : TableRow.Statement (.seek a) := by
  refine ⟨(by decide : Instr.row (.seek .res) ∈ opcodeTable), ?_⟩
  simp only [Row.matches, decide_eq_true_eq, Instr.row, encode, encodeOperand_zop]
  decide

theorem TableRow.record (d : Operand) : TableRow.Statement (.record d) := by
  refine ⟨(by decide : Instr.row (.record .res) ∈ opcodeTable), ?_⟩
  simp only [Row.matches, decide_eq_true_eq, Instr.row, encode, encodeOperand_zop]
  decide

theorem TableRow.whdr : TableRow.Statement .whdr := by
  unfold TableRow.Statement; decide

theorem TableRow.wtrl : TableRow.Statement .wtrl := by
  unfold TableRow.Statement; decide

theorem TableRow.wlbl : TableRow.Statement .wlbl := by
  unfold TableRow.Statement; decide

theorem TableRow.nvWait : TableRow.Statement .nvWait := by
  unfold TableRow.Statement; decide

theorem TableRow.nvMode : TableRow.Statement .nvMode := by
  unfold TableRow.Statement; decide

theorem TableRow.nvLoad (ad : Operand) : TableRow.Statement (.nvLoad ad) := by
  refine ⟨(by decide : Instr.row (.nvLoad .res) ∈ opcodeTable), ?_⟩
  simp only [Row.matches, decide_eq_true_eq, Instr.row, encode, encodeOperand_zop]
  decide

theorem TableRow.nvArm : TableRow.Statement .nvArm := by
  unfold TableRow.Statement; decide

theorem TableRow.nvCommit : TableRow.Statement .nvCommit := by
  unfold TableRow.Statement; decide

theorem TableRow.sInit : TableRow.Statement .sInit := by
  unfold TableRow.Statement; decide

theorem TableRow.sPoll : TableRow.Statement .sPoll := by
  unfold TableRow.Statement; decide

theorem TableRow.sClose : TableRow.Statement .sClose := by
  unfold TableRow.Statement; decide

theorem TableRow.sIdle : TableRow.Statement .sIdle := by
  unfold TableRow.Statement; decide

end Sys2Proof.Laws
end

