-- ==== Sys2Proof/Laws/Safety.lean ====
section
/-! SUPPORT. What the invariant says that is not one of its fields. -/

namespace Sys2Proof.Machine

/-- In CLOSING, a list that ends the session without a MASK in it needs CE = 0 already. -/
theorem closing_masked_of_path (ce : Bool) (ms : List Micro) (hp : sessPath .closing ce ms = true)
    (hi : Micro.setSess .idle ∈ ms) (hm : Micro.op .mask ∉ ms) : ce = false := by
  induction ms with
  | nil => simp at hi
  | cons m ms ih =>
    cases m with
    | setSess y => cases y <;> simp_all [sessPath, sessArc]
    | op i => cases i <;> simp_all [sessPath]
    | ifPending => simp [sessPath] at hp
    | _ => simp_all [sessPath]

/-- 10_state.md rule R41 (g) for CLOSING: once the MASK of an S.CLOSE in progress has run, CE = 0. -/
theorem Inv.closing_masked {s : State} (h : Inv s) (hs : s.sess = .closing)
    (hi : Micro.setSess .idle ∈ s.ustep) (hm : Micro.op .mask ∉ s.ustep) : s.ce = false :=
  closing_masked_of_path s.ce s.ustep (hs ▸ h.path) hi hm

end Sys2Proof.Machine
end

