-- ==== Sys2Proof/Laws/Step.lean ====
section
/-! SUPPORT. What one step of the block can do, said once. -/

namespace Sys2Proof.Machine

/-- The state after a micro-step, on the state whose USTEP holds what follows it. -/
def afterMicro (m : Micro) (s : State) : State :=
  match m with
  | .op i => after i s
  | .bumpCursor => bumpCursorStep s
  | .savePv => savePvStep s
  | .ifPv => ifPvStep s
  | .ifPending => ifPendingStep s
  | .setSess x => setSessStep x s

theorem runMicro_eq (m : Micro) (s : State) : runMicro m s = .next (afterMicro m s) := by
  cases m <;> first | exact exec_eq _ _ | rfl

/-- Who moves next is no micro-step's to say. -/
@[simp] theorem afterMicro_agenda (m : Micro) (s : State) : (afterMicro m s).agenda = s.agenda := by
  cases m <;>
    simp only [afterMicro, bumpCursorStep, savePvStep, ifPvStep, ifPendingStep, setSessStep] <;>
    (try split_ifs) <;> simp

@[simp] theorem afterMicro_rota (m : Micro) (s : State) : (afterMicro m s).rota = s.rota := by
  cases m <;>
    simp only [afterMicro, bumpCursorStep, savePvStep, ifPvStep, ifPendingStep, setSessStep] <;>
    (try split_ifs) <;> simp

/-- The things a step that is no reset can do to `s`; `ag` and `ro` are the
agenda and the rota it leaves. -/
inductive StepKind (s : State) : State → Prop where
  /-- TIMER, PIN or NVDEV moves. -/
  | event (i : Instr) (ag : List Turn) (ro : Rota) (fc : Nat) (hi : i = .tick ∨ i = .edge ∨ i = .nvdone) :
      StepKind s (after i { s with agenda := ag, rota := ro, freeCtr := fc })
  /-- SEQ takes the micro-step at the head of USTEP. -/
  | micro (m : Micro) (ms : List Micro) (ag : List Turn) (ro : Rota) (hm : s.ustep = m :: ms) :
      StepKind s (afterMicro m { s with agenda := ag, rota := ro, ustep := ms })
  /-- AUTO mode issues the session operation of SESS. -/
  | auto (i : Instr) (ag : List Turn) (ro : Rota) (hu : s.ustep = []) (hm : s.stepMode = false)
      (hi : autoOp s.sess = some i) : StepKind s (after i { s with agenda := ag, rota := ro })
  /-- STEP mode runs an operation from the command port. -/
  | port (i : Instr) (ag : List Turn) (ro : Rota) (hu : s.ustep = []) (hm : s.stepMode = true)
      (hi : i.issuable = true) : StepKind s (after i { s with agenda := ag, rota := ro })
  /-- A turn passes, or a host write is ignored. -/
  | pass (ag : List Turn) (ro : Rota) : StepKind s { s with agenda := ag, rota := ro }
  /-- A write to the command port is refused. -/
  | refuse (ag : List Turn) (ro : Rota) : StepKind s (State.refuse { s with agenda := ag, rota := ro })
  /-- HOST reads. -/
  | read (a : HostAddr) (ag : List Turn) (ro : Rota) : StepKind s (hostReadStep a { s with agenda := ag, rota := ro })

theorem issuable_of_decodePort {w : OpWord} {i : Instr} (h : decodePort w = some i) :
    i.issuable = true := by
  unfold decodePort at h
  split at h
  · split_ifs at h with hi
    simp only [Option.some.injEq] at h
    exact h ▸ hi
  · simp at h

theorem seqStep_kind {s t : State} {ag : List Turn} {ro : Rota} (h : seqStep { s with agenda := ag, rota := ro } = .next t) :
    StepKind s t := by
  unfold seqStep at h
  split at h
  · rename_i m ms hm
    rw [runMicro_eq] at h
    simp only [Host.Outcome.next.injEq] at h
    subst h
    exact .micro m ms ag ro hm
  · rename_i hu
    unfold issueNext at h
    split_ifs at h with hm
    · simp only [Host.Outcome.next.injEq] at h
      subst h
      exact .pass ag ro
    · split at h
      · rename_i i hi
        rw [exec_next_iff] at h
        subst h
        exact .auto i ag ro hu (by simpa using hm) hi
      · simp only [Host.Outcome.next.injEq] at h
        subst h
        exact .pass ag ro

theorem portWrite_kind {s t : State} {ag : List Turn} {ro : Rota} {v : OpWord}
    (hu : s.stepMode = true → s.ustep = []) (h : portWrite v { s with agenda := ag, rota := ro } = .next t) :
    StepKind s t := by
  unfold portWrite at h
  split_ifs at h with hm
  · split at h
    · rename_i i hi
      rw [exec_next_iff] at h
      subst h
      exact .port i ag ro (hu hm) hm (issuable_of_decodePort hi)
    · simp only [Host.Outcome.next.injEq] at h
      subst h
      exact .refuse ag ro
  · simp only [Host.Outcome.next.injEq] at h
    subst h
    exact .refuse ag ro

theorem tieStep_kind {s t : State} {ag : List Turn} {ro : Rota} (h : tieStep { s with agenda := ag, rota := ro } = .next t) :
    StepKind s t := by
  unfold tieStep at h
  split_ifs at h <;> rw [exec_next_iff] at h <;> subst h
  · exact .event .tick (.pin :: ag) ro (s.freeCtr + 1) (by simp)
  · exact .event .edge (.timer :: ag) ro (s.freeCtr + 1) (by simp)

/-- One turn that is no reset, for a state in which a bus access in STEP mode finds no operation in
progress. -/
theorem takeTurn_kind {s t : State} {ag : List Turn} {ro : Rota} {x : Turn}
    (hr : ∀ strap, x ≠ .host (.reset strap))
    (hu : ∀ a v, x = .host (.write a v) → s.stepMode = true → s.ustep = [])
    (h : takeTurn x { s with agenda := ag, rota := ro } = .next t) : StepKind s t := by
  cases x with
  | timer => rw [show takeTurn .timer _ = exec .tick _ from rfl, exec_next_iff] at h; subst h
             exact .event .tick ag ro s.freeCtr (by simp)
  | pin => rw [show takeTurn .pin _ = exec .edge _ from rfl, exec_next_iff] at h; subst h
           exact .event .edge ag ro s.freeCtr (by simp)
  | nvdev => rw [show takeTurn .nvdev _ = exec .nvdone _ from rfl, exec_next_iff] at h; subst h
             exact .event .nvdone ag ro s.freeCtr (by simp)
  | seq => exact seqStep_kind h
  | tickAndEdge => exact tieStep_kind h
  | host a =>
    cases a with
    | read a =>
      simp only [takeTurn, Host.Outcome.next.injEq] at h
      subst h
      exact .read a ag ro
    | write a v =>
      simp only [takeTurn, hostWriteStep] at h
      split_ifs at h
      · exact portWrite_kind (hu a v rfl) h
      · simp only [Host.Outcome.next.injEq] at h
        subst h
        exact .pass ag ro
    | reset strap => exact absurd rfl (hr strap)

/-- Taking a turn off the agenda or the rota touches nothing else. -/
theorem nextTurn_snd (s : State) : ∃ ag ro, (nextTurn s).2 = { s with agenda := ag, rota := ro } := by
  unfold nextTurn quietTurn
  split
  · exact ⟨s.agenda, _, rfl⟩
  · split_ifs
    · exact ⟨s.agenda, _, rfl⟩
    · exact ⟨_, s.rota, rfl⟩

/-- The rota names no host. -/
theorem quietTurn_ne_host (s : State) (a : HostAct) : (quietTurn s).1 ≠ .host a := by
  unfold quietTurn Rota.turn
  split <;> simp

/-- A bus access whose turn has come finds, in STEP mode, no operation in progress (30_encoding.md rule R95). -/
theorem nextTurn_bus {s : State} {a : HostAct} (h : (nextTurn s).1 = .host a) (ha : a.isBus = true)
    (hm : s.stepMode = true) : s.ustep = [] := by
  unfold nextTurn at h
  split at h
  · exact absurd h (quietTurn_ne_host s a)
  · split_ifs at h with hh
    · exact absurd h (quietTurn_ne_host s a)
    · simp only at h
      subst h
      simpa [hostHeld, ha, hm, State.seqIdle] using hh

/-- What a step that is no reset can do. -/
theorem step_kind {s t : State} (hr : ∀ strap, (nextTurn s).1 ≠ .host (.reset strap))
    (h : step s = .next t) : StepKind s t := by
  obtain ⟨ag, ro, e⟩ := nextTurn_snd s
  unfold step advance at h
  rw [e] at h
  exact takeTurn_kind hr (fun a v hx hm => nextTurn_bus hx rfl hm) h

/-- What a reset does. -/
theorem step_reset {s : State} {strap : Bool} (h : (nextTurn s).1 = .host (.reset strap)) :
    step s = .next (applyReset strap (nextTurn s).2) := by
  unfold step advance
  rw [h]
  rfl

end Sys2Proof.Machine
end

