-- ==== Sys2Proof/Tests/Slice0.lean ====
section
/-! SUPPORT. Tests: ill-formed terms the checks refuse, words written out from 30_encoding.md and what they
decode to, one step of each operation with the values of 95_test_vectors.md, and a witness for the hypotheses
of every statement that has some. -/

namespace Sys2Proof.Tests

open Sys2Proof Sys2Proof.Machine

/-! ### Helpers -/

/-- A field of the next state, none if there is no next state. -/
def field {α : Type} (r : Result) (f : State → α) : Option α :=
  match r with
  | .next t => some (f t)
  | _ => none

/-- Reset with STEP_MODE = 1 and the constants of TESTCFG. -/
def sStep : State := State.afterReset Config.testcfg true []

/-- Reset in AUTO mode with CAP = 4, as in program P4. -/
def sCap4 : State := State.afterReset { Config.testcfg with cap := 4 } false []

/-- P4 after its four edges: four timestamps, nothing consumed. -/
def sQueue : State :=
  { sCap4 with
    ts := [(0, 100), (1, 140), (2, 150), (3, 170)], wrIdx := 4, rdIdx := 1, sess := .collecting,
    tick := 170, ce := true, prevTs := 100, prevValid := true, nvCursor := 12 }

/-! ### Well-formedness refuses -/

theorem test_wf_testcfg : Config.testcfg.wf = true := by decide

theorem test_wf_tickW_low : Config.wf { Config.testcfg with tickW := 5 } = false := by decide

theorem test_wf_tickW_high : Config.wf { Config.testcfg with tickW := 17 } = false := by decide

theorem test_wf_cap_low : Config.wf { Config.testcfg with cap := 0 } = false := by decide

theorem test_wf_cap_high : Config.wf { Config.testcfg with cap := 128 } = false := by decide

theorem test_wf_header : Config.wf { Config.testcfg with header := [0x48] } = false := by decide

theorem test_wf_trailer : Config.wf { Config.testcfg with trailer := [] } = false := by decide

theorem test_wf_lblFwd : Config.wf { Config.testcfg with lblFwd := [1, 2, 3, 4] } = false := by decide

theorem test_wf_lblRew : Config.wf { Config.testcfg with lblRew := [1, 2] } = false := by decide

theorem test_wf_lblStop : Config.wf { Config.testcfg with lblStop := [] } = false := by decide

theorem test_wf_lblUnk : Config.wf { Config.testcfg with lblUnk := [1] } = false := by decide

theorem test_issuable_refuses_events :
    Instr.issuable .tick = false ∧ Instr.issuable .edge = false ∧ Instr.issuable .nvdone = false := by decide

theorem test_micro_refuses_event : Micro.wf (.op .edge) = false := by decide

theorem test_micro_refuses_session : Micro.wf (.op .sPoll) = false := by decide

theorem test_memory_refuses_unsorted : Memory.wf 256 [(3, 1#8), (3, 2#8)] = false := by decide

theorem test_memory_refuses_outside : Memory.wf 256 [(256, 1#8)] = false := by decide

/-! ### Decoding: every row's word, from the fields of rule R85 and the opcodes of rule R88 -/

theorem test_decode_events :
    decode 0b00000000000000010000000000000000#32 = some .tick ∧
    decode 0b00000000000000100000000000000000#32 = some .edge ∧
    decode 0b00000000000000110000000000000000#32 = some .nvdone := by decide

theorem test_decode_timer_queue :
    decode 0b00000000000100000000000000000000#32 = some .now ∧
    decode 0b00000000001000000000000000000000#32 = some .hasp ∧
    decode 0b00000000001000010000000000000000#32 = some .peek ∧
    decode 0b00000000001000100000000000000000#32 = some .adv ∧
    decode 0b00000000001000110000000000000000#32 = some .mask ∧
    decode 0b00000000001001000000000000000000#32 = some .unmask := by decide

theorem test_decode_classifier :
    decode 0b00000000001100000000000010001100#32 = some (.delta (.imm 140)) ∧
    decode 0b00000001001100000000000000000000#32 = some (.delta .res) ∧
    decode 0b00000000001100010000000000011110#32 = some (.classify (.imm 30)) ∧
    decode 0b00000001001100010000000000000000#32 = some (.classify .res) := by decide

theorem test_decode_decoder :
    decode 0b00000000010000000000000000000000#32 = some .decShort ∧
    decode 0b00000000010000000000000000000001#32 = some .decLow ∧
    decode 0b00000000010000000000000000000010#32 = some .decHigh ∧
    decode 0b00000000010000000000000000000011#32 = some .decLong ∧
    decode 0b00000001010000000000000000000000#32 = some .decR := by decide

theorem test_decode_recorder :
    decode 0b00000000010100000000000000110000#32 = some (.wbyte (.imm 0x30)) ∧
    decode 0b00000000010100010000000011111101#32 = some (.seek (.imm 253)) ∧
    decode 0b00000000010100100000000000101000#32 = some (.record (.imm 40)) ∧
    decode 0b00000000010100110000000000000000#32 = some .whdr ∧
    decode 0b00000000010101000000000000000000#32 = some .wtrl ∧
    decode 0b00000000010101010000000000000000#32 = some .wlbl := by decide

theorem test_decode_protocol :
    decode 0b00000000010110000000000000000000#32 = some .nvWait ∧
    decode 0b00000000010110010000000000000000#32 = some .nvMode ∧
    decode 0b00000000010110100000110000110000#32 = some (.nvLoad (.imm 0x0C30)) ∧
    decode 0b00000000010110110000000000000000#32 = some .nvArm ∧
    decode 0b00000000010111000000000000000000#32 = some .nvCommit := by decide

theorem test_decode_session :
    decode 0b00000000011000000000000000000000#32 = some .sInit ∧
    decode 0b00000000011000010000000000000000#32 = some .sPoll ∧
    decode 0b00000000011000100000000000000000#32 = some .sClose ∧
    decode 0b00000000011000110000000000000000#32 = some .sIdle := by decide

/-- 95_test_vectors.md 2.7. -/
theorem test_decode_ignored_fields :
    decode 0x0021BEEF#32 = some .peek ∧ decode 0x0121BEEF#32 = some .peek ∧
    decode 0x0040FFFE#32 = some .decHigh ∧ decode 0x01400002#32 = some .decR := by decide

/-- 95_test_vectors.md 2.7. -/
theorem test_decode_reserved :
    decode 0x02210000#32 = none ∧ decode 0x80000000#32 = none ∧ decode 0x00000000#32 = none ∧
    decode 0x00110000#32 = none ∧ decode 0x00560000#32 = none ∧ decode 0x00570000#32 = none ∧
    decode 0x005D0000#32 = none ∧ decodePort 0x00020000#32 = none ∧ decode 0x00010001#32 = none := by decide

theorem test_encode_load : encode (.nvLoad (.imm 0x05AB)) = 0x005A05AB#32 := by decide

theorem test_table_word : decodeTableWord 32 0x005100FD = some (.seek (.imm 253)) := by decide

theorem test_table_word_too_wide : decodeTableWord 16 0x00210000 = none := by decide

/-! ### One step each, 95_test_vectors.md 2.1 to 2.6 -/

theorem test_tick_wraps : field (exec .tick { sStep with tick := 0xFFFF }) State.tick = some 0 := by decide

theorem test_tick_under_mask :
    field (exec .tick { sStep with tick := 50, sess := .draining, nvBusy := true }) State.tick = some 51 := by
  decide

theorem test_now : field (exec .now { sStep with tick := 0x0123, res := 7 }) State.res = some 0x0123 := by
  decide

theorem test_edge_last_entry :
    field (exec .edge { sStep with ce := true, wrIdx := 99, tick := 9 }) (fun t => (t.wrIdx, t.tsRead 99)) =
      some (100, 9) := by decide

theorem test_edge_mask_before_full :
    field (exec .edge { sStep with wrIdx := 100 }) (fun t => (t.edgeMaskDrops, t.edgeFullDrops, t.cond)) =
      some (1, 0, 0x10) := by decide

theorem test_hasp_full_consumed :
    field (exec .hasp { sStep with wrIdx := 100, rdIdx := 100, res := 5 }) State.res = some 0 := by decide

theorem test_hasp_one : field (exec .hasp { sStep with wrIdx := 4, rdIdx := 3 }) State.res = some 1 := by decide

theorem test_peek : field (exec .peek sQueue) (fun t => (t.res, t.rdIdx)) = some (140, 1) := by decide

theorem test_peek_refused :
    field (exec .peek { sQueue with rdIdx := 4, res := 9 }) (fun t => (t.res, t.cond)) = some (9, 0x40) := by
  decide

theorem test_adv : field (exec .adv { sQueue with res := 140 }) (fun t => (t.rdIdx, t.res)) = some (2, 140) := by
  decide

theorem test_adv_refused :
    field (exec .adv { sQueue with rdIdx := 4 }) (fun t => (t.rdIdx, t.cond)) = some (4, 0x40) := by decide

theorem test_mask : field (exec .mask sQueue) State.ce = some false := by decide

theorem test_unmask : field (exec .unmask { sStep with sess := .draining }) State.ce = some true := by decide

theorem test_unmask_refused :
    field (exec .unmask { sStep with sess := .closing }) (fun t => (t.ce, t.cond)) = some (false, 0x40) := by
  decide

theorem test_delta_across_wrap :
    field (exec (.delta (.imm 4)) { sStep with prevTs := 65530 }) (fun t => (t.res, t.prevTs, t.prevValid)) =
      some (10, 4, true) := by decide

theorem test_delta_source_is_destination :
    field (exec (.delta .res) { sStep with prevTs := 140, res := 150 }) (fun t => (t.res, t.prevTs)) =
      some (10, 150) := by decide

theorem test_classify_boundaries :
    [0, 5, 6, 15, 16, 30, 31, 65535].map (fun d => field (exec (.classify (.imm d)) sStep) State.res) =
      [some 0, some 0, some 1, some 1, some 2, some 2, some 3, some 3] := by decide

theorem test_classify_res :
    field (exec (.classify .res) { sStep with res := 20 }) State.res = some 2 := by decide

theorem test_decShort :
    field (exec .decShort { sStep with acc := 5, bitpos := 3 }) (fun t => (t.acc, t.bitpos)) = some (5, 3) := by
  decide

theorem test_decLow_publishes :
    field (exec .decLow { sStep with acc := 0x1234, bitpos := 15 })
      (fun t => (t.acc, t.bitpos, t.cmd, t.frames)) = some (0, 0, 0x1234, 1) := by decide

theorem test_decHigh :
    field (exec .decHigh { sStep with acc := 1, bitpos := 2 }) (fun t => (t.acc, t.bitpos)) = some (5, 3) := by
  decide

theorem test_decHigh_publishes :
    field (exec .decHigh { sStep with acc := 0x1234, bitpos := 15 }) (fun t => (t.cmd, t.frames)) =
      some (0x9234, 1) := by decide

theorem test_decLong :
    field (exec .decLong { sStep with acc := 0x7FFF, bitpos := 15, cmd := 0xABCD })
      (fun t => (t.acc, t.bitpos, t.cmd, t.frames)) = some (0, 0, 0xABCD, 0) := by decide

theorem test_decR_ignores_high_bits :
    field (exec .decR { sStep with acc := 1, bitpos := 1, res := 0xFFFC }) (fun t => (t.acc, t.bitpos)) =
      some (1, 1) := by decide

theorem test_frames_saturate :
    field (exec .decLow { sStep with bitpos := 15, frames := 65535 }) State.frames = some 65535 := by decide

theorem test_commit_not_armed :
    field (exec .nvCommit sStep) (fun t => (t.nvBusy, t.nvArm, t.cond)) = some (false, false, 0x80) := by decide

theorem test_commit :
    field (exec .nvCommit { sStep with nvArm := true, nvMode := true }) (fun t => (t.nvBusy, t.nvArm, t.cond)) =
      some (true, false, 0) := by decide

theorem test_nvMode : field (exec .nvMode sStep) State.nvMode = some true := by decide

theorem test_nvArm_busy :
    field (exec .nvArm { sStep with nvBusy := true }) (fun t => (t.nvArm, t.cond)) = some (false, 0x80) := by
  decide

theorem test_nvLoad_res :
    field (exec (.nvLoad .res) { sStep with res := 0x0C30 }) (fun t => (t.nvAddr, t.nvData)) =
      some (12, 0x30) := by decide

theorem test_nvLoad_busy :
    field (exec (.nvLoad (.imm 0x06CD)) { sStep with nvBusy := true, nvAddr := 5, nvData := 0xAB })
      (fun t => (t.nvAddr, t.nvData, t.cond)) = some (5, 0xAB, 0x80) := by decide

theorem test_nvWait_holds :
    field (exec .nvWait { sStep with nvBusy := true }) State.ustep = some [.op .nvWait] := by decide

theorem test_nvdone :
    field (exec .nvdone { sStep with nvBusy := true, nvAddr := 5, nvData := 0xAB })
      (fun t => (t.nvRead 5, t.nvBusy)) = some (0xAB, false) := by decide

theorem test_wbyte_last_address :
    field (exec (.wbyte (.imm 0x41)) { sStep with nvCursor := 255 }) State.ustep =
      some [.op .nvWait, .op .nvMode, .op (.nvLoad (.imm 0xFF41)), .op .nvArm, .op .nvCommit,
        .bumpCursor] := by decide

theorem test_wbyte_ceiling :
    field (exec (.wbyte (.imm 0x41)) { sStep with nvCursor := 256 })
      (fun t => (t.nvCursor, t.nvCeilDrops, t.cond, t.ustep)) = some (256, 1, 0x04, []) := by decide

theorem test_seek_nine_bits : field (exec (.seek (.imm 0x0205)) sStep) State.nvCursor = some 5 := by decide

theorem test_seek_above_ceiling : field (exec (.seek (.imm 300)) sStep) State.nvCursor = some 300 := by decide

theorem test_fmt : fmt 7 = [0x30, 0x30, 0x37, 0x0A] ∧ fmt 123 = [0x31, 0x32, 0x33, 0x0A] ∧
    fmt 65535 = [0x39, 0x39, 0x39, 0x0A] := by decide

theorem test_record_saturates :
    field (exec (.record (.imm 1000)) sStep) (fun t => (t.cond, t.ustep.length)) = some (0x20, 4) := by decide

theorem test_record_999 : field (exec (.record (.imm 999)) sStep) State.cond = some 0 := by decide

theorem test_whdr : field (exec .whdr sStep) (fun t => t.ustep.head?) = some (some (.op (.wbyte (.imm 0x48)))) := by
  decide

theorem test_wtrl :
    field (exec .wtrl sStep) State.ustep =
      some [.op (.wbyte (.imm 0x45)), .op (.wbyte (.imm 0x4E)), .op (.wbyte (.imm 0x44))] := by decide

theorem test_wlbl_ply :
    field (exec .wlbl { sStep with cmd := 0xA55A }) (fun t => (t.ustep, t.cond)) =
      some ([.op (.wbyte (.imm 0x70)), .op (.wbyte (.imm 0x6C)), .op (.wbyte (.imm 0x79))], 0) := by decide

theorem test_wlbl_unknown :
    field (exec .wlbl sStep) (fun t => (t.ustep.head?, t.cond)) =
      some (some (.op (.wbyte (.imm 0x75))), 0x08) := by decide

theorem test_sInit_refused :
    field (exec .sInit sQueue) (fun t => (t.ustep, t.cond)) = some ([], 0x40) := by decide

theorem test_sPoll_complete :
    field (exec .sPoll { sQueue with rdIdx := 4 }) (fun t => (t.sess, t.ce)) = some (.closing, true) := by decide

theorem test_sPoll_refused : field (exec .sPoll sStep) State.cond = some 0x40 := by decide

theorem test_sClose :
    field (exec .sClose { sQueue with sess := .closing }) (fun t => t.ustep.head?) = some (some (.op .mask)) := by
  decide

theorem test_sIdle : field (exec .sIdle { sStep with sess := .idle }) State.cond = some 0 := by decide

theorem test_sIdle_refused : field (exec .sIdle sStep) State.cond = some 0x40 := by decide

theorem test_pop_expands : Pseudo.pop.expand = [.peek, .adv] := by decide

/-! ### Steps of the block -/

theorem test_step_auto_from_reset :
    field (step State.reset) (fun t => t.ustep) = some [.op .whdr, .op .unmask, .setSess .collecting] := by decide

theorem test_step_runs_placed_word :
    field (step (State.reset.withFetchWord 32 0x005100FD)) State.nvCursor = some 253 := by decide

theorem test_step_runs_placed_event :
    field (step (State.reset.withFetchWord 32 0x00010000)) State.tick = some 1 := by decide

theorem test_step_refuses_reserved_word :
    field (step (State.reset.withFetchWord 32 0x02210000)) State.cond = some 0x40 := by decide

/-- 95_test_vectors.md 2.1: an event word on the port. -/
theorem test_step_refuses_event_on_port :
    field (step { sStep with agenda := [.host (.write 0x10 0x00010000)] }) (fun t => (t.tick, t.cond)) =
      some (0, 0x40) := by decide

theorem test_step_host_held :
    field (step { sStep with
        ustep := [.op .nvArm], agenda := [.host (.read 0)] }) (fun t => (t.nvArm, t.agenda.length)) =
      some (true, 1) := by decide

/-- With nothing on the agenda the three agents take turns: three steps from reset, one TICK. -/
theorem test_step_quiet_turns :
    field (runSteps 3 sStep) (fun t => (t.tick, t.rota)) = some (1, .seq) := by decide

/-- 44_recorder.md rule R160 in the rota: the last byte of a session completes in IDLE. -/
theorem test_step_idle_write_completes :
    field (runSteps 3 { sQueue with sess := .idle, ce := false, nvBusy := true }) State.nvBusy = some false := by
  decide

theorem test_status_reset : hostRead 0x00 sStep = 0x100 := by decide

/-- P4's end: IDLE, PREV_VALID = 1, NV_MODE = 1, DONE = 1. -/
theorem test_status_done :
    hostRead 0x00 { sQueue with sess := .idle, ce := false, nvMode := true, rdIdx := 4 } = 0x4C4 := by decide

theorem test_host_window :
    (hostRead 0x41 sQueue, hostRead 0x43 sQueue, hostRead 0x44 sQueue) = (140, 170, 0) := by decide

theorem test_reset_keeps_storage :
    field (step { sQueue with nv := [(5, 0xAB)], agenda := [.host (.reset true)] })
      (fun t => (t.nvRead 5, t.wrIdx, t.stepMode)) = some (0xAB, 0, true) := by decide

/-! ### Witnesses: states and operands that meet the hypotheses of the statements

One theorem per statement with hypotheses, `witness_<the statement>`, a boundary value for each clause. -/

/-- `sQueue` without an operation in progress meets the invariant. -/
theorem inv_sQueue : Inv sQueue where
  cfg_wf := by decide
  ts_wf := by decide
  nv_wf := by decide
  ts_listed i := by
    obtain _ | _ | _ | _ | i := i <;> simp [sQueue, Memory.read?]
  ts_narrow _ v _ := v.isLt
  tick_narrow := by decide
  prev_narrow := by decide
  rd_le_wr := by decide
  wr_le_cap := by decide
  acc_clear k _ := by simp [sQueue, sCap4, State.afterReset]
  arm_idle := by decide
  full_count := by decide
  mask_count := by decide
  ceil_count := by decide
  cond_zero := by decide
  idle_masked := by decide
  path := by decide

/-- The state from which an S.POLL begins its drain, its turn being SEQ's. -/
theorem resetsNext_sQueue : ¬ ResetsNext sQueue := by
  rintro ⟨strap, h⟩
  cases h

/-- `sQueue` after a finished session. -/
def sDone : State := { sQueue with sess := .idle, ce := false, rdIdx := 4, agenda := [.pin] }

theorem inv_sDone : Inv sDone :=
  { inv_sQueue with
    rd_le_wr := by decide
    arm_idle := by decide
    idle_masked := by decide
    path := by decide }

/-- `sQueue` before its first poll: four timestamps, none consumed. -/
def sFirst : State := { sQueue with rdIdx := 0, prevTs := 0, prevValid := false }

theorem inv_sFirst : Inv sFirst :=
  { inv_sQueue with
    prev_narrow := by decide
    rd_le_wr := by decide }

theorem resetsNext_sDone : ¬ ResetsNext sDone := by
  rintro ⟨strap, h⟩
  cases h

/-- A byte write on its way, with one step of the protocol behind it. -/
def sWriting : State :=
  { sQueue with
    ustep := [.op .nvMode, .op (.nvLoad (.imm 0x0C30)), .op .nvArm, .op .nvCommit, .bumpCursor] }

theorem witness_OpcodeRowsNeverOverlap :
    Instr.row .peek ∈ opcodeTable ∧ (Instr.row .peek).matches 0x0121BEEF#32 = true := by decide

theorem witness_OperandIsTheNamedFieldOfArg :
    sStep.cfg.tickW ≤ 16 ∧ 16 ≤ sStep.cfg.tickW := by decide

theorem witness_TickCountsModulo :
    sStep.cfg.wf = true ∧ Config.wf { Config.testcfg with tickW := 6 } = true := by decide

theorem witness_EdgeAppendsOrDrops :
    sStep.cfg.wf = true ∧
    (let s := { sStep with ce := true, wrIdx := 99 }; s.ce = true ∧ s.wrIdx.toNat < s.cfg.cap) ∧
    (let s := { sStep with ce := true, wrIdx := 100 }; s.ce = true ∧ s.cfg.cap ≤ s.wrIdx.toNat) ∧
    sStep.ce = false := by decide

theorem witness_PeekReadsAtTheCursor :
    (let s := { sQueue with rdIdx := 3 }; s.rdIdx.toNat < s.wrIdx.toNat) ∧
    (let s := { sQueue with rdIdx := 4 }; s.wrIdx.toNat ≤ s.rdIdx.toNat) := by decide

theorem witness_AdvMovesTheCursor :
    (let s := { sQueue with rdIdx := 3 }; s.rdIdx.toNat < s.wrIdx.toNat) ∧
    (let s := { sQueue with rdIdx := 4 }; s.wrIdx.toNat ≤ s.rdIdx.toNat) := by decide

theorem witness_MaskAndUnmaskMoveCE :
    sStep.sess = .init ∧ sQueue.sess = .collecting ∧ { sStep with sess := .draining }.sess = .draining ∧
    { sStep with sess := .closing }.sess = .closing ∧ sDone.sess = .idle := by decide

theorem witness_BackpressureKeepsTheFirstEntries :
    let s := { sCap4 with ce := true };
    s.cfg.wf = true ∧ s.ce = true ∧ s.wrIdx = 0 ∧ s.edgeFullDrops = 0 ∧
      3 < ([1, 2, 3, 4, 5] : List Word).length ∧ 3 < s.cfg.cap := by decide

theorem witness_DeltaSubtractsThePrevious : sQueue.cfg.wf = true := by decide

theorem witness_DurationSurvivesOneWrap :
    sQueue.cfg.wf = true ∧ 65535 < 2 ^ sQueue.cfg.tickW ∧ 2 ^ sQueue.cfg.tickW ≤ 65536 := by decide

theorem witness_ClassifyComparesWithThresholds :
    (tickArg (.imm 5) sStep).toNat ≤ 5 ∧
    (5 < (tickArg (.imm 6) sStep).toNat ∧ (tickArg (.imm 15) sStep).toNat ≤ 15) ∧
    (15 < (tickArg (.imm 16) sStep).toNat ∧ (tickArg (.imm 30) sStep).toNat ≤ 30) ∧
    30 < (tickArg (.imm 31) sStep).toNat := by decide

theorem witness_LongerDurationsNeverRankLower :
    (tickArg (.imm 5) sStep).toNat < (tickArg (.imm 6) sStep).toNat ∧
    (∃ t, exec (.classify (.imm 5)) sStep = .next t) ∧ ∃ t, exec (.classify (.imm 6)) sStep = .next t :=
  ⟨by decide, ⟨_, rfl⟩, ⟨_, rfl⟩⟩

theorem witness_DecoderTransitions :
    { sStep with bitpos := 14 }.bitpos.toNat < 15 ∧ { sStep with bitpos := 15 }.bitpos.toNat = 15 := by decide

theorem witness_DecRFollowsTheSymbolInRes :
    { sStep with res := 0xFFFC }.res.toNat % 4 = 0 ∧ { sStep with res := 1 }.res.toNat % 4 = 1 ∧
    { sStep with res := 2 }.res.toNat % 4 = 2 ∧ { sStep with res := 0xFFFF }.res.toNat % 4 = 3 := by decide

theorem witness_OnePublishPerSixteenBits :
    (∀ x ∈ [Symbol.short, .low, .high], x ≠ Symbol.long) ∧
    { sStep with frames := 65531 }.frames.toNat + [Symbol.short, .low, .high].length < 65535 := by decide

theorem witness_LabelTakesTheFirstMatchingKey :
    let c := Config.testcfg
    (0x20DF ≠ c.keyFwd ∧ 0x20DF = c.keyRew) ∧
    (0xA55A ≠ c.keyFwd ∧ 0xA55A ≠ c.keyRew ∧ 0xA55A = c.keyPlay) ∧
    (0x40BF ≠ c.keyFwd ∧ 0x40BF ≠ c.keyRew ∧ 0x40BF ≠ c.keyPlay ∧ 0x40BF = c.keyStop) ∧
    (0 ≠ c.keyFwd ∧ 0 ≠ c.keyRew ∧ 0 ≠ c.keyPlay ∧ 0 ≠ c.keyStop) ∧ 0x10EF = c.keyFwd := by decide

theorem witness_WaitHoldsWhileBusy :
    sStep.nvBusy = false ∧ { sStep with nvBusy := true }.nvBusy = true := by decide

theorem witness_ProtocolStepsActOnlyWhenIdle :
    (sStep.nvBusy = false ∧ { sStep with nvBusy := true }.nvBusy = true) ∧
    Instr.mask ≠ .nvCommit ∧ { sStep with nvArm := true, nvMode := true }.nvMode = true ∧
    { sStep with nvArm := true, nvMode := true }.nvArm = true ∧
    ∃ t, exec .mask { sStep with nvArm := true, nvMode := true } = .next t :=
  ⟨by decide, by decide, by decide, by decide, _, rfl⟩

theorem witness_CommitNeedsArmAndMode :
    (let s := { sStep with nvArm := true, nvMode := true };
      s.nvBusy = false ∧ s.nvArm = true ∧ s.nvMode = true) ∧
    { sStep with nvBusy := true }.nvBusy = true ∧ sStep.nvArm = false ∧
    { sStep with nvArm := true }.nvMode = false := by decide

theorem witness_NvdoneProgramsOneByte :
    sStep.nvBusy = false ∧ { sStep with nvBusy := true }.nvBusy = true := by decide

theorem witness_WbyteTestsTheCeilingFirst :
    { sStep with nvCursor := 255 }.nvCursor.toNat < 256 ∧
    256 ≤ { sStep with nvCursor := 256 }.nvCursor.toNat := by decide

theorem witness_WriteStringStopsAtTheCeiling :
    let s := { sStep with nvCursor := 255, ustep := writeString [0x41, 0x42] ++ [Micro.bumpCursor] };
    s.agenda = [] ∧ s.ustep = writeString [0x41, 0x42] ++ [Micro.bumpCursor] ∧
      0 < ([0x41, 0x42] : List Byte).length ∧ s.nvCursor.toNat + 0 < 256 := by decide

theorem witness_SessionOperationsQueueTheirExpansion :
    sStep.sess = .init ∧
    ({ sQueue with rdIdx := 4 }.sess = .collecting ∧
      { sQueue with rdIdx := 4 }.rdIdx.toNat = { sQueue with rdIdx := 4 }.cfg.cap) ∧
    (sQueue.sess = .collecting ∧ sQueue.rdIdx.toNat ≠ sQueue.cfg.cap) ∧
    { sQueue with sess := .closing }.sess = .closing ∧ sDone.sess = .idle := by decide

theorem witness_SessionOperationsRefuseOtherStates :
    sQueue.sess ≠ .init ∧ sStep.sess ≠ .collecting ∧ sStep.sess ≠ .closing ∧ sStep.sess ≠ .idle := by decide

theorem witness_SessMovesOnlyAlongItsArcs :
    Inv sQueue ∧ ¬ ResetsNext sQueue ∧ ∃ t, step sQueue = .next t :=
  ⟨inv_sQueue, resetsNext_sQueue, _, rfl⟩

theorem witness_SessionStartsWithTheHeader :
    Config.testcfg.wf = true ∧ 11 < Config.testcfg.header.length := by decide

theorem witness_PollDrainsOneTimestamp :
    (Inv sQueue ∧ sQueue.agenda = [] ∧ sQueue.ustep = [] ∧ sQueue.sess = .collecting ∧
      sQueue.rdIdx.toNat < sQueue.wrIdx.toNat ∧ sQueue.prevValid = true ∧
      ((40#16).toNat : Int) =
        ((sQueue.tsRead sQueue.rdIdx.toNat).toNat - sQueue.prevTs.toNat : Int) % 2 ^ sQueue.cfg.tickW) ∧
    (Inv sFirst ∧ sFirst.agenda = [] ∧ sFirst.ustep = [] ∧ sFirst.sess = .collecting ∧
      sFirst.rdIdx.toNat < sFirst.wrIdx.toNat ∧ sFirst.prevValid = false ∧
      ((100#16).toNat : Int) =
        ((sFirst.tsRead sFirst.rdIdx.toNat).toNat - sFirst.prevTs.toNat : Int) % 2 ^ sFirst.cfg.tickW) :=
  ⟨⟨inv_sQueue, by decide⟩, inv_sFirst, by decide⟩

theorem witness_CloseWritesMarkerAndLabel :
    let s := { sQueue with sess := .closing };
    s.cfg.wf = true ∧ s.agenda = [] ∧ s.ustep = [] ∧ s.sess = .closing := by decide

theorem witness_PortWriteRunsTheDecodedOperation :
    let s := { sStep with agenda := [.host (.write 0x10 0x005100FD)] };
    s.stepMode = true ∧ s.ustep = [] ∧ s.agenda = .host (.write 0x10 0x005100FD) :: [] ∧
      decodePort 0x005100FD = some (.seek (.imm 253)) := by decide

theorem witness_RefusedPortWritesOnlyRaiseBadOp :
    (OpWord.op 0x01030007#32).toNat ∈ [1, 2, 3] ∧
    (let s := { sQueue with agenda := [.host (.write 0x10 0x005100FD)] };
      s.agenda = .host (.write 0x10 0x005100FD) :: [] ∧ s.stepMode = false) ∧
    (let s := { sStep with agenda := [.host (.write 0x10 0x00020000)] };
      s.agenda = .host (.write 0x10 0x00020000) :: [] ∧ s.ustep = [] ∧ decodePort 0x00020000 = none) := by
  decide

theorem witness_SeqRunsItsListThenTheSession :
    (let s := { sWriting with agenda := [.seq] };
      s.agenda = .seq :: [] ∧ s.ustep.head? = some (.op .nvMode)) ∧
    (let s := { sQueue with agenda := [.seq], ustep := [.savePv, .ifPv, .bumpCursor, .setSess .collecting] };
      s.agenda = .seq :: [] ∧ s.ustep.head? = some .savePv) ∧
    (let s := { sQueue with agenda := [.seq], ustep := [.ifPv], pvT := true };
      s.agenda = .seq :: [] ∧ s.ustep = [.ifPv] ∧ s.pvT = true) ∧
    (let s := { sQueue with agenda := [.seq], ustep := [.ifPv] }; s.ustep = [.ifPv] ∧ s.pvT = false) ∧
    (let s := { sQueue with agenda := [.seq], ustep := [.ifPending], res := 1 };
      s.agenda = .seq :: [] ∧ s.ustep = [.ifPending] ∧ s.res = 1) ∧
    (let s := { sQueue with agenda := [.seq], ustep := [.ifPending] }; s.ustep = [.ifPending] ∧ s.res ≠ 1) ∧
    (let s := { sQueue with agenda := [.seq], ustep := [.setSess .collecting], sess := .draining };
      s.agenda = .seq :: [] ∧ s.ustep = [.setSess .collecting]) ∧
    (let s := { sQueue with agenda := [.seq], ustep := [.bumpCursor], nvCursor := 255 };
      s.agenda = .seq :: [] ∧ s.ustep = [.bumpCursor]) ∧
    (let s := { sStep with agenda := [.seq] }; s.agenda = .seq :: [] ∧ s.ustep = [] ∧ s.stepMode = true) ∧
    (let s := { sCap4 with agenda := [.seq] }; s.ustep = [] ∧ s.stepMode = false ∧ s.sess = .init) ∧
    (let s := { sQueue with agenda := [.seq] }; s.ustep = [] ∧ s.stepMode = false ∧ s.sess = .collecting) ∧
    (let s := { sQueue with agenda := [.seq], sess := .closing };
      s.ustep = [] ∧ s.stepMode = false ∧ s.sess = .closing) ∧
    (let s := { sDone with agenda := [.seq] }; s.ustep = [] ∧ s.stepMode = false ∧ s.sess = .idle) := by decide

theorem witness_EventsAreStepsOfTheirAgents :
    { sStep with agenda := [.timer] }.agenda = .timer :: [] ∧ { sStep with agenda := [.pin] }.agenda = .pin :: [] ∧
    { sStep with agenda := [.nvdev] }.agenda = .nvdev :: [] ∧
    (let s := State.afterReset { Config.testcfg with tieOrder := .tickFirst } true [];
      { s with agenda := [.tickAndEdge] }.agenda = .tickAndEdge :: [] ∧ s.cfg.tieOrder = .tickFirst) ∧
    (let s := State.afterReset { Config.testcfg with tieOrder := .edgeFirst } true [];
      { s with agenda := [.tickAndEdge] }.agenda = .tickAndEdge :: [] ∧ s.cfg.tieOrder = .edgeFirst) ∧
    (let s := { sStep with agenda := [.tickAndEdge] };
      s.agenda = .tickAndEdge :: [] ∧ s.cfg.tieOrder = .either) := by decide

theorem witness_EventsTouchOnlyTheirElements :
    (∃ t, exec .tick sQueue = .next t) ∧ (∃ t, exec .edge sQueue = .next t) ∧
    ∃ t, exec .nvdone { sQueue with nvBusy := true } = .next t :=
  ⟨⟨_, rfl⟩, ⟨_, rfl⟩, _, rfl⟩

theorem witness_SeqNeverWritesTheProducersState :
    Instr.issuable .adv = true ∧ (∃ t, exec .adv { sQueue with nvBusy := true } = .next t) ∧
    { sQueue with nvBusy := true }.nvBusy = true :=
  ⟨by decide, ⟨_, rfl⟩, rfl⟩

theorem witness_ConfigurationNeverChanges :
    (∃ t, step sQueue = .next t) ∧ ¬ ResetsNext sQueue :=
  ⟨⟨_, rfl⟩, resetsNext_sQueue⟩

theorem witness_ConditionsStayUntilReset :
    ¬ ResetsNext sDone ∧ (∃ t, step sDone = .next t) ∧ { sDone with cond := 0x10 }.hasCond .edgeMasked = true :=
  ⟨resetsNext_sDone, ⟨_, rfl⟩, by decide⟩

theorem witness_StoredTimestampsNeverChange :
    Inv sQueue ∧ ¬ ResetsNext sQueue ∧ (∃ t, step sQueue = .next t) ∧ 3 < sQueue.wrIdx.toNat :=
  ⟨inv_sQueue, resetsNext_sQueue, ⟨_, rfl⟩, by decide⟩

/-- A write in flight that changes a byte: NV[5] holds 0x11 and 0xAB is on its way. -/
def sFlight : State :=
  { sStep with nv := [(5, 0x11)], nvBusy := true, nvAddr := 5, nvData := 0xAB, agenda := [.nvdev] }

theorem witness_StorageChangesOnlyByTheWriteInFlight :
    ¬ ResetsNext sFlight ∧ (∃ t, step sFlight = .next t ∧ t.nvRead 5 ≠ sFlight.nvRead 5) ∧
    sFlight.nvBusy = true := by
  refine ⟨?_, ⟨_, rfl, by decide⟩, rfl⟩
  rintro ⟨strap, h⟩
  cases h

theorem witness_OnlyTheMaskOperationsChangeCE :
    (∃ t, exec .mask sQueue = .next t ∧ t.ce ≠ sQueue.ce) ∧
    ∃ t, exec .unmask sStep = .next t ∧ t.ce ≠ sStep.ce :=
  ⟨⟨_, rfl, by decide⟩, _, rfl, by decide⟩

theorem witness_OnlyFiveOperationsWriteRes :
    ∃ t, exec (.classify (.imm 31)) sQueue = .next t ∧ t.res ≠ sQueue.res :=
  ⟨_, rfl, by decide⟩

theorem witness_AutoModeNeverBreaksTheProtocol :
    AutoInv sWriting ∧ ¬ ResetsNext sWriting ∧ ∃ t, step sWriting = .next t := by
  refine ⟨⟨by decide, by decide, by decide⟩, ?_, _, rfl⟩
  rintro ⟨strap, h⟩
  cases h

theorem witness_InvariantHoldsAtReset :
    Config.testcfg.wf = true ∧ Memory.wf ceiling [(0, 0x48#8), (255, 0x44#8)] = true := by decide

theorem witness_EveryStepKeepsTheInvariant : Inv sQueue ∧ ∃ t, step sQueue = .next t :=
  ⟨inv_sQueue, _, rfl⟩

theorem witness_FinishedRunStaysFinished :
    Inv sDone ∧ sDone.done = true ∧ sDone.stepMode = false ∧ sDone.ustep = [] ∧ ¬ ResetsNext sDone ∧
    (∀ v, (nextTurn sDone).1 ≠ .host (.write 0x10 v)) ∧ ∃ t, step sDone = .next t := by
  refine ⟨inv_sDone, by decide, by decide, by decide, resetsNext_sDone, ?_, _, rfl⟩
  intro v h
  cases h

theorem witness_ResetClearsAllButTheStorage :
    let s := { sFlight with agenda := [.host (.reset true)] };
    s.agenda = .host (.reset true) :: [] ∧ (s.nvBusy = false ∨ 6 ≠ s.nvAddr.toNat) := by decide

theorem witness_HostSeesTheRegisterMap :
    (0x10 ≤ (0x3F : HostAddr).toNat ∧ (0x3F : HostAddr).toNat < 0x40) ∧
    (0x40 ≤ (0xFF : HostAddr).toNat ∧ (0xFF : HostAddr).toNat < 0x100) ∧
    (0x100 ≤ (0x106 : HostAddr).toNat ∧ (sFlight.nvBusy = false ∨ (0x106 : HostAddr).toNat - 0x100 ≠
      sFlight.nvAddr.toNat)) := by decide

theorem witness_HostReadsAndIgnoredWritesChangeNothing :
    (sStep.stepMode = false ∨ sStep.ustep = []) ∧ sWriting.stepMode = false ∧
    { sStep with agenda := [.host (.read 0x10F)] }.agenda = .host (.read 0x10F) :: [] ∧
    (0x11 : HostAddr) ≠ 0x10 ∧
    { sStep with agenda := [.host (.write 0x11 7)] }.agenda = .host (.write 0x11 7) :: [] := by decide

theorem witness_HostWaitsForTheOperationInProgress :
    let s := { sStep with ustep := [.op .nvWait], nvBusy := true, agenda := [.host (.read 0)] };
    let u := { sStep with ustep := [.op .nvArm], agenda := [.host (.write 0x10 0)] };
    (s.stepMode = true ∧ s.ustep ≠ [] ∧ HostAct.isBus (.read 0) = true ∧ s.agenda = .host (.read 0) :: []) ∧
    (u.stepMode = true ∧ u.ustep ≠ [] ∧ HostAct.isBus (.write 0x10 0) = true ∧
      u.agenda = .host (.write 0x10 0) :: []) ∧
    s.rota = .seq ∧ { s with rota := .timer }.rota = .timer ∧ { s with rota := .nvdev }.rota = .nvdev := by decide

theorem witness_PollWithNothingPendingOnlyClearsRes :
    let s := { sQueue with rdIdx := 3, wrIdx := 3, res := 7 };
    s.agenda = [] ∧ s.ustep = [] ∧ s.sess = .collecting ∧ s.rdIdx.toNat ≠ s.cfg.cap ∧
      s.wrIdx.toNat ≤ s.rdIdx.toNat := by decide

/-- The endless run of the block in STEP mode from reset with no input: only TICK moves. -/
def xQuiet : Nat → State
  | 0 => sStep
  | n + 1 =>
    match (xQuiet n).rota with
    | .seq => { xQuiet n with rota := .timer }
    | .timer => { xQuiet n with rota := .nvdev, tick := truncTick Config.testcfg ((xQuiet n).tick + 1) }
    | .nvdev => { xQuiet n with rota := .seq }

theorem xQuiet_eq (n : Nat) : ∃ v r, xQuiet n = { sStep with tick := v, rota := r } := by
  induction n with
  | zero => exact ⟨_, _, rfl⟩
  | succ n ih =>
    obtain ⟨v, r, h⟩ := ih
    simp only [xQuiet, h]
    cases r <;> exact ⟨_, _, rfl⟩

theorem witness_EveryEndlessRunIsFair :
    sStep.agenda = [] ∧ sStep.rota = .seq ∧ { sStep with rota := .timer }.rota = .timer ∧
    { sStep with rota := .nvdev }.rota = .nvdev ∧
    (let s := { sQueue with agenda := [.timer] };
      Inv s ∧ ¬ ResetsNext s ∧ ∃ t, step s = .next t ∧ t.tick ≠ s.tick) ∧
    ∀ n, step (xQuiet n) = .next (xQuiet (n + 1)) := by
  refine ⟨rfl, rfl, rfl, rfl, ⟨{ inv_sQueue with }, ?_, _, rfl, by decide⟩, fun n => ?_⟩
  · rintro ⟨strap, h⟩
    cases h
  · obtain ⟨v, r, h⟩ := xQuiet_eq n
    simp only [xQuiet, h]
    cases r <;> rfl

end Sys2Proof.Tests
end

section
/-! ### What each operation does to the state, and the elements it leaves alone -/

namespace Sys2Proof.Machine

section
variable (s : State)

@[simp] theorem after_tick_eq : after .tick s = { s with tick := truncTick s.cfg (s.tick + 1) } := rfl

@[simp] theorem after_edge_eq : after .edge s =
    if s.ce then if s.wrIdx.toNat < s.cfg.cap then s.tsAppend else dropFull s else dropMasked s := rfl

@[simp] theorem after_nvdone_eq :
    after .nvdone s = if s.nvBusy then { s.nvProgram with nvBusy := false } else s := rfl

@[simp] theorem after_now_eq : after .now s = { s with res := s.tick } := rfl

@[simp] theorem after_hasp_eq : after .hasp s = { s with res := if s.pending then 1 else 0 } := rfl

@[simp] theorem after_peek_eq :
    after .peek s = if s.pending then { s with res := s.tsRead s.rdIdx.toNat } else s.refuse := rfl

@[simp] theorem after_adv_eq :
    after .adv s = if s.pending then { s with rdIdx := s.rdIdx + 1 } else s.refuse := rfl

@[simp] theorem after_mask_eq : after .mask s = { s with ce := false } := rfl

@[simp] theorem after_unmask_eq : after .unmask s =
    if s.sess = .closing ∨ s.sess = .idle then s.refuse else { s with ce := true } := rfl

@[simp] theorem after_delta_eq (o : Operand) : after (.delta o) s =
    { s with
      res := truncTick s.cfg (tickArg o s - s.prevTs), prevTs := tickArg o s, prevValid := true } := rfl

@[simp] theorem after_classify_eq (o : Operand) : after (.classify o) s =
    { s with res := (symbolCode (classifyDuration (tickArg o s))).setWidth 16 } := rfl

@[simp] theorem after_decShort_eq : after .decShort s = symbolStep .short s := rfl
@[simp] theorem after_decLow_eq : after .decLow s = symbolStep .low s := rfl
@[simp] theorem after_decHigh_eq : after .decHigh s = symbolStep .high s := rfl
@[simp] theorem after_decLong_eq : after .decLong s = symbolStep .long s := rfl
@[simp] theorem after_decR_eq : after .decR s = symbolStep (resSymbol s) s := rfl

@[simp] theorem after_wbyte_eq (o : Operand) : after (.wbyte o) s =
    if s.nvCursor.toNat < ceiling then s.pushSeq (byteWrite (s.nvCursor.extractLsb' 0 8) (byteArg o s))
    else dropCeil s := rfl

@[simp] theorem after_seek_eq (o : Operand) :
    after (.seek o) s = { s with nvCursor := cursorArg o s } := rfl

@[simp] theorem after_record_eq (o : Operand) : after (.record o) s =
    (noteSaturation (tickArg o s) s).pushSeq (writeString (fmt (tickArg o s))) := rfl

@[simp] theorem after_whdr_eq : after .whdr s = s.pushSeq (writeString s.cfg.header) := rfl
@[simp] theorem after_wtrl_eq : after .wtrl s = s.pushSeq (writeString s.cfg.trailer) := rfl

@[simp] theorem after_wlbl_eq :
    after .wlbl s = (noteUnknown s).pushSeq (writeString (label s.cfg s.cmd)) := rfl

@[simp] theorem after_nvWait_eq :
    after .nvWait s = if s.nvBusy then s.pushSeq [.op .nvWait] else s := rfl

@[simp] theorem after_nvMode_eq :
    after .nvMode s = if s.nvBusy then s.raise .nvSeq else { s with nvMode := true } := rfl

@[simp] theorem after_nvLoad_eq (o : Operand) : after (.nvLoad o) s =
    if s.nvBusy then s.raise .nvSeq else { s with nvAddr := addrArg o s, nvData := byteArg o s } := rfl

@[simp] theorem after_nvArm_eq :
    after .nvArm s = if s.nvBusy then s.raise .nvSeq else { s with nvArm := true } := rfl

@[simp] theorem after_nvCommit_eq : after .nvCommit s =
    if !s.nvBusy && s.nvArm && s.nvMode then { s with nvBusy := true, nvArm := false }
    else { s.raise .nvSeq with nvArm := false } := rfl

@[simp] theorem after_sInit_eq :
    after .sInit s = if s.sess = .init then s.pushSeq initSeq else s.refuse := rfl

@[simp] theorem after_sPoll_eq : after .sPoll s =
    if s.sess = .collecting then
      if s.rdIdx.toNat = s.cfg.cap then { s with sess := .closing } else s.pushSeq pollSeq
    else s.refuse := rfl

@[simp] theorem after_sClose_eq :
    after .sClose s = if s.sess = .closing then s.pushSeq closeSeq else s.refuse := rfl

@[simp] theorem after_sIdle_eq : after .sIdle s = if s.sess = .idle then s else s.refuse := rfl

end

section
variable {i : Instr} (s : State)

/-- Only a TICK moves TICK (rule R21). -/
theorem after_tick_of_ne (h : i ≠ .tick) : (after i s).tick = s.tick := by
  cases i <;> simp [apply_ite State.tick] at h ⊢

/-- Only a captured edge writes TS (rule R22). -/
theorem after_ts_of_ne (h : i ≠ .edge) : (after i s).ts = s.ts := by
  cases i <;> simp [apply_ite State.ts] at h ⊢

/-- Only a captured edge moves WR_IDX (rule R23). -/
theorem after_wrIdx_of_ne (h : i ≠ .edge) : (after i s).wrIdx = s.wrIdx := by
  cases i <;> simp [apply_ite State.wrIdx] at h ⊢

/-- Only ADV moves RD_IDX (rule R24). -/
theorem after_rdIdx_of_ne (h : i ≠ .adv) : (after i s).rdIdx = s.rdIdx := by
  cases i <;> simp [apply_ite State.rdIdx] at h ⊢

/-- Only DELTA writes PREV_TS (rule R25). -/
theorem after_prevTs_of_ne (h : ∀ o, i ≠ .delta o) : (after i s).prevTs = s.prevTs := by
  cases i <;> simp [apply_ite State.prevTs] at h ⊢

/-- Only NVDONE writes NV (rule R39). -/
theorem after_nv_of_ne (h : i ≠ .nvdone) : (after i s).nv = s.nv := by
  cases i <;> simp [apply_ite State.nv] at h ⊢

/-- Only S.POLL, among the operations themselves, writes SESS (rule R32). -/
theorem after_sess_of_ne (h : i ≠ .sPoll) : (after i s).sess = s.sess := by
  cases i <;> simp [apply_ite State.sess] at h ⊢

/-- Only MASK and UNMASK write CE (rule R34). -/
theorem after_ce_of_ne (hm : i ≠ .mask) (hu : i ≠ .unmask) : (after i s).ce = s.ce := by
  cases i <;> simp [apply_ite State.ce] at hm hu ⊢

/-- Only NOW, HASP, PEEK, DELTA and CLASSIFY write RES (rule R31). -/
theorem after_res_of_ne (hn : i ≠ .now) (hh : i ≠ .hasp) (hp : i ≠ .peek) (hd : ∀ o, i ≠ .delta o)
    (hc : ∀ o, i ≠ .classify o) : (after i s).res = s.res := by
  cases i <;> simp [apply_ite State.res] at hn hh hp hd hc ⊢

/-- NV_ADDR is frozen during a write (rule R36). -/
theorem after_nvAddr_of_busy (h : s.nvBusy = true) : (after i s).nvAddr = s.nvAddr := by
  cases i <;> simp [apply_ite State.nvAddr, h]

/-- NV_DATA is frozen during a write (rule R36). -/
theorem after_nvData_of_busy (h : s.nvBusy = true) : (after i s).nvData = s.nvData := by
  cases i <;> simp [apply_ite State.nvData, h]

end

end Sys2Proof.Machine
end

section
/-! ### The invariant of rule R41, part by part: the data -/

namespace Sys2Proof

theorem Config.wf_bounds {c : Config} (h : c.wf = true) : c.tickW ≤ 16 ∧ c.cap ≤ 127 := by
  simp only [Config.wf, Bool.and_eq_true, decide_eq_true_eq] at h
  omega

namespace Machine

/-! #### The timestamp buffer and TICK -/

/-- The fields of `Inv` about TS, its indices and TICK. -/
structure QueueInv (c : Config) (ts : List (Nat × Word)) (wr rd : Idx) (tick : Word) : Prop where
  ts_wf : Memory.wf c.cap ts = true
  ts_listed : ∀ i, (Memory.read? ts i).isSome = decide (i < wr.toNat)
  ts_narrow : ∀ i v, Memory.read? ts i = some v → v.toNat < 2 ^ c.tickW
  tick_narrow : tick.toNat < 2 ^ c.tickW
  rd_le_wr : rd.toNat ≤ wr.toNat
  wr_le_cap : wr.toNat ≤ c.cap

/-- An index below another one does not wrap when it is advanced. -/
theorem idx_succ_toNat {a : Idx} {n : Nat} (h : a.toNat < n) (hn : n ≤ 127) :
    (a + 1).toNat = a.toNat + 1 := by
  have h1 : (1 : Idx).toNat = 1 := rfl
  rw [BitVec.toNat_add, h1]
  omega

section
variable {c : Config} {ts : List (Nat × Word)} {wr rd : Idx} {tick : Word}

theorem QueueInv.append (h : QueueInv c ts wr rd tick) (hc : c.cap ≤ 127) (hw : wr.toNat < c.cap) :
    QueueInv c (Memory.write ts wr.toNat tick) (wr + 1) rd tick := by
  have hs := idx_succ_toNat hw hc
  refine ⟨Memory.wf_write ts tick hw h.ts_wf, fun i => ?_, fun i v hv => ?_, h.tick_narrow, ?_, ?_⟩
  · rw [Memory.read?_write, hs]
    split_ifs with hi
    · simp [hi]
    · rw [h.ts_listed, decide_eq_decide]
      omega
  · rw [Memory.read?_write] at hv
    split_ifs at hv with hi
    · exact Option.some.inj hv ▸ h.tick_narrow
    · exact h.ts_narrow i v hv
  · have := h.rd_le_wr
    omega
  · omega

theorem QueueInv.advance (h : QueueInv c ts wr rd tick) (hp : rd.toNat < wr.toNat) :
    QueueInv c ts wr (rd + 1) tick := by
  have hs := idx_succ_toNat hp (Nat.le_of_lt_succ wr.isLt)
  exact { h with rd_le_wr := by omega }

theorem QueueInv.count (h : QueueInv c ts wr rd tick) (hc : c.tickW ≤ 16) (v : Word) :
    QueueInv c ts wr rd (truncTick c v) :=
  { h with tick_narrow := truncTick_narrow c v hc }

end

/-- A TICK counts, a captured edge appends, an ADV advances; no other operation touches the buffer. -/
theorem QueueInv.after {s : State} (i : Instr) (hc : s.cfg.wf = true)
    (h : QueueInv s.cfg s.ts s.wrIdx s.rdIdx s.tick) :
    QueueInv (after i s).cfg (after i s).ts (after i s).wrIdx (after i s).rdIdx (after i s).tick := by
  obtain ⟨hw, hcap⟩ := Config.wf_bounds hc
  by_cases ht : i = .tick
  · subst ht
    exact h.count hw (s.tick + 1)
  by_cases he : i = .edge
  · subst he
    rw [after_edge_eq]
    split_ifs with hce hfull
    · exact h.append hcap hfull
    · exact h
    · exact h
  by_cases ha : i = .adv
  · subst ha
    rw [after_adv_eq]
    split_ifs with hp
    · exact h.advance (of_decide_eq_true hp)
    · exact h
  rw [after_cfg, after_ts_of_ne s he, after_wrIdx_of_ne s he, after_rdIdx_of_ne s ha, after_tick_of_ne s ht]
  exact h

/-! #### PREV_TS and the storage -/

/-- PREV_TS only ever takes the operand of a DELTA, cut to TICK_W bits. -/
theorem after_prevTs_narrow {s : State} (i : Instr) (hc : s.cfg.wf = true)
    (h : s.prevTs.toNat < 2 ^ s.cfg.tickW) : (after i s).prevTs.toNat < 2 ^ s.cfg.tickW := by
  by_cases hd : ∃ o, i = .delta o
  · obtain ⟨o, rfl⟩ := hd
    exact truncTick_narrow s.cfg _ (Config.wf_bounds hc).1
  · rwa [after_prevTs_of_ne s (by simpa using hd)]

/-- NV_ADDR lies below the ceiling. -/
theorem nvAddr_lt_ceiling (a : Byte) : a.toNat < ceiling := a.isLt

/-- NVDONE writes inside the storage, and nothing else writes it. -/
theorem after_nv_wf {s : State} (i : Instr) (h : Memory.wf ceiling s.nv = true) :
    Memory.wf ceiling (after i s).nv = true := by
  by_cases hi : i = .nvdone
  · subst hi
    rw [after_nvdone_eq]
    split_ifs
    · exact Memory.wf_write s.nv s.nvData (nvAddr_lt_ceiling s.nvAddr) h
    · exact h
  · rwa [after_nv_of_ne s hi]

/-! #### The decoder -/

/-- The bits of ACC from BITPOS on are 0 (rule R41 (d)). -/
def AccClear (acc : Word) (bitpos : BitVec 4) : Prop := ∀ k, bitpos.toNat ≤ k → acc.getLsbD k = false

/-- The symbol an operation feeds to the decoder; SHORT, which changes nothing, if it is no DEC. -/
def fedSymbol (s : State) : Instr → Symbol
  | .decLow => .low
  | .decHigh => .high
  | .decLong => .long
  | .decR => resSymbol s
  | _ => .short

theorem after_acc (i : Instr) (s : State) : (after i s).acc = (symbolStep (fedSymbol s i) s).acc := by
  cases i <;> simp [fedSymbol, apply_ite State.acc, symbolStep]

theorem after_bitpos (i : Instr) (s : State) :
    (after i s).bitpos = (symbolStep (fedSymbol s i) s).bitpos := by
  cases i <;> simp [fedSymbol, apply_ite State.bitpos, symbolStep]

/-- `complete` keeps (d) when the bits it is given are clear from `n` on. -/
theorem accClear_complete {acc : Word} {n : Nat} (s : State) (hn : n ≤ wordW)
    (h : ∀ k, n ≤ k → acc.getLsbD k = false) :
    AccClear (complete acc n s).acc (complete acc n s).bitpos := by
  unfold complete
  split_ifs with hw
  · exact fun k _ => by simp [publish]
  · have hlt : n < 16 := Nat.lt_of_le_of_ne hn hw
    intro k hk
    exact h k (by simpa [Nat.mod_eq_of_lt hlt] using hk)

/-- (d) through every transition of the decoder: LOW moves past a clear bit, HIGH sets the bit it moves past, LONG
clears all. -/
theorem accClear_symbolStep {s : State} (x : Symbol) (h : AccClear s.acc s.bitpos) :
    AccClear (symbolStep x s).acc (symbolStep x s).bitpos := by
  have hb : s.bitpos.toNat + 1 ≤ wordW := s.bitpos.isLt
  cases x with
  | short => exact h
  | low => exact accClear_complete s hb fun k hk => h k (by omega)
  | high =>
    refine accClear_complete s hb fun k hk => ?_
    simp [h k (by omega), show k - s.bitpos.toNat ≠ 0 by omega]
  | long => exact fun k _ => by simp [symbolStep, symbolLong]

theorem AccClear.after {s : State} (i : Instr) (h : AccClear s.acc s.bitpos) :
    AccClear (after i s).acc (after i s).bitpos := by
  rw [after_acc, after_bitpos]
  exact accClear_symbolStep _ h

/-! #### The write-control protocol -/

theorem after_nvArm_of_ne {i : Instr} (s : State) (ha : i ≠ .nvArm) (hc : i ≠ .nvCommit) :
    (after i s).nvArm = s.nvArm := by
  cases i <;> simp [apply_ite State.nvArm] at ha hc ⊢

theorem after_nvBusy_of_ne {i : Instr} (s : State) (hc : i ≠ .nvCommit) (hd : i ≠ .nvdone) :
    (after i s).nvBusy = s.nvBusy := by
  cases i <;> simp [apply_ite State.nvBusy] at hc hd ⊢

/-- A busy device is not armed (rule R41 (e)): NV.ARM acts only on an idle device, and NV.COMMIT disarms. -/
theorem after_arm_idle {s : State} (i : Instr) (h : s.nvArm = true → s.nvBusy = false) :
    (after i s).nvArm = true → (after i s).nvBusy = false := by
  by_cases hc : i = .nvCommit
  · subst hc
    simp [apply_ite State.nvArm]
  by_cases hd : i = .nvdone
  · subst hd
    simp [apply_ite State.nvBusy]
  rw [after_nvBusy_of_ne s hc hd]
  by_cases ha : i = .nvArm
  · subst ha
    cases hb : s.nvBusy <;> simp_all
  · rwa [after_nvArm_of_ne s ha hc]

/-! #### The conditions and the drop counters -/

/-- A drop counter and the bit of its condition: 0 exactly while the bit is clear (rule R41 (f)). -/
def CountMatches (n : Word) (v : BitVec 8) (c : Cond) : Prop := n = 0 ↔ v.getLsbD (condCode c) = false

/-- Counting a drop and raising its condition in one step. -/
theorem CountMatches.bump (n : Word) (v : BitVec 8) (c : Cond) :
    CountMatches (satInc n) (setCondBit v c) c := by
  rw [CountMatches, getLsbD_setCondBit]
  simp [show satInc n ≠ 0#16 from satInc_ne_zero n]

/-- Raising another condition. -/
theorem CountMatches.raise_other {n : Word} {v : BitVec 8} {c d : Cond} (h : CountMatches n v c)
    (hne : c ≠ d) : CountMatches n (setCondBit v d) c := by
  have hcode : condCode c ≠ condCode d := fun e => hne (condCode_injective e)
  simpa [CountMatches, getLsbD_setCondBit, hcode] using h

/-- The fields of `Inv` about COND and the drop counters. -/
structure CountInv (cond : BitVec 8) (full masked ceil : Word) : Prop where
  full_count : CountMatches full cond .edgeFull
  mask_count : CountMatches masked cond .edgeMasked
  ceil_count : CountMatches ceil cond .nvCeil
  cond_zero : cond.getLsbD 0 = false

/-- No condition has bit 0 of COND. -/
theorem setCondBit_getLsbD_zero (v : BitVec 8) (c : Cond) : (setCondBit v c).getLsbD 0 = v.getLsbD 0 := by
  have : 0 ≠ condCode c := by cases c <;> decide
  rw [getLsbD_setCondBit, decide_eq_false this, Bool.or_false]

/-- A condition that counts no drops (rule R38). -/
def Cond.uncounted : Cond → Bool
  | .edgeFull | .edgeMasked | .nvCeil => false
  | _ => true

theorem CountInv.raise {v : BitVec 8} {f m n : Word} (h : CountInv v f m n) {c : Cond}
    (hc : c.uncounted = true) : CountInv (setCondBit v c) f m n where
  full_count := h.full_count.raise_other (by rintro rfl; cases hc)
  mask_count := h.mask_count.raise_other (by rintro rfl; cases hc)
  ceil_count := h.ceil_count.raise_other (by rintro rfl; cases hc)
  cond_zero := by rw [setCondBit_getLsbD_zero, h.cond_zero]

/-- The one condition an operation other than EDGE can raise (60_exceptions.md rule R211). -/
def ownCond : Instr → Cond
  | .wbyte _ => .nvCeil
  | .record _ => .fmtSat
  | .wlbl => .cmdUnknown
  | .nvMode | .nvLoad _ | .nvArm | .nvCommit => .nvSeq
  | _ => .badOp

/-- An operation raises its own condition or leaves COND alone, by the outcome of its test. -/
theorem after_cond_of_ne {i : Instr} (s : State) (he : i ≠ .edge) :
    (after i s).cond = s.cond ∨ (after i s).cond = setCondBit s.cond (ownCond i) := by
  cases i <;>
    simp [ownCond, noteSaturation, noteUnknown, apply_ite State.cond] at he ⊢ <;> grind

theorem after_edgeFullDrops_of_ne {i : Instr} (s : State) (h : i ≠ .edge) :
    (after i s).edgeFullDrops = s.edgeFullDrops := by
  cases i <;> simp [apply_ite State.edgeFullDrops] at h ⊢

theorem after_edgeMaskDrops_of_ne {i : Instr} (s : State) (h : i ≠ .edge) :
    (after i s).edgeMaskDrops = s.edgeMaskDrops := by
  cases i <;> simp [apply_ite State.edgeMaskDrops] at h ⊢

theorem after_nvCeilDrops_of_ne {i : Instr} (s : State) (h : ∀ o, i ≠ .wbyte o) :
    (after i s).nvCeilDrops = s.nvCeilDrops := by
  cases i <;> simp [apply_ite State.nvCeilDrops] at h ⊢

/-- A drop is counted in the step that raises its condition, and nothing else touches a counter. -/
theorem CountInv.after {s : State} (i : Instr)
    (h : CountInv s.cond s.edgeFullDrops s.edgeMaskDrops s.nvCeilDrops) :
    CountInv (after i s).cond (after i s).edgeFullDrops (after i s).edgeMaskDrops (after i s).nvCeilDrops := by
  obtain ⟨hf, hm, hn, hz⟩ := h
  by_cases he : i = .edge
  · subst he
    rw [after_edge_eq]
    split_ifs
    · exact ⟨hf, hm, hn, hz⟩
    · exact ⟨.bump _ _ _, hm.raise_other (by decide), hn.raise_other (by decide),
        (setCondBit_getLsbD_zero _ _).trans hz⟩
    · exact ⟨hf.raise_other (by decide), .bump _ _ _, hn.raise_other (by decide),
        (setCondBit_getLsbD_zero _ _).trans hz⟩
  by_cases hw : ∃ o, i = .wbyte o
  · obtain ⟨o, rfl⟩ := hw
    rw [after_wbyte_eq]
    split_ifs
    · exact ⟨hf, hm, hn, hz⟩
    · exact ⟨hf.raise_other (by decide), hm.raise_other (by decide), .bump _ _ _,
        (setCondBit_getLsbD_zero _ _).trans hz⟩
  push Not at hw
  rw [after_edgeFullDrops_of_ne s he, after_edgeMaskDrops_of_ne s he, after_nvCeilDrops_of_ne s hw]
  obtain hc | hc := after_cond_of_ne s he <;> rw [hc]
  · exact ⟨hf, hm, hn, hz⟩
  · have hu : (ownCond i).uncounted = true := by
      cases i <;> simp [ownCond, Cond.uncounted] at hw ⊢
    exact CountInv.raise ⟨hf, hm, hn, hz⟩ hu

end Machine

end Sys2Proof
end

section
/-! ### The invariant of rule R41, part by part: SESS, CE and what SEQ still has to do -/

namespace Sys2Proof

/-- A micro-step that moves neither SESS nor CE and may stand anywhere in USTEP. -/
def Micro.plain : Micro → Bool
  | .op i => (Micro.op i).wf && decide (i ≠ .mask) && decide (i ≠ .unmask)
  | .bumpCursor | .savePv | .ifPv => true
  | .ifPending | .setSess _ => false

namespace Machine

/-! #### The course of a session over a list of micro-steps -/

theorem sessPath_nil_iff (x : Sess) (ce : Bool) :
    sessPath x ce [] = true ↔ x ≠ .draining ∧ (x = .idle → ce = false) := by
  cases x <;> simp [sessPath]

section
variable (x : Sess) (ce : Bool) (ms : List Micro)

theorem sessPath_op {i : Instr} (hm : i ≠ .mask) (hu : i ≠ .unmask) :
    sessPath x ce (.op i :: ms) = ((Micro.op i).wf && sessPath x ce ms) := by
  cases i <;> simp [sessPath] at hm hu ⊢

theorem sessPath_cons_plain {m : Micro} (h : m.plain = true) :
    sessPath x ce (m :: ms) = sessPath x ce ms := by
  cases m with
  | op i =>
    simp only [Micro.plain, Bool.and_eq_true, decide_eq_true_eq] at h
    obtain ⟨⟨hw, hm⟩, hu⟩ := h
    rw [sessPath_op x ce ms hm hu, hw, Bool.true_and]
  | bumpCursor | savePv | ifPv => rfl
  | ifPending | setSess => cases h

theorem sessPath_append_plain {ps : List Micro} (h : ps.all Micro.plain = true) :
    sessPath x ce (ps ++ ms) = sessPath x ce ms := by
  induction ps with
  | nil => rfl
  | cons p ps ih =>
    rw [List.all_cons, Bool.and_eq_true] at h
    rw [List.cons_append, sessPath_cons_plain x ce _ h.1, ih h.2]

end

/-- The operation SEQ finds in its list is never a session operation. -/
theorem session_of_path {x : Sess} {ce : Bool} {i : Instr} {ms : List Micro}
    (h : sessPath x ce (.op i :: ms) = true) : i.session = false := by
  cases i <;> simp [sessPath, Micro.wf, Instr.session] at h ⊢

/-- Between two operations, any operation but a session operation may be run next. -/
theorem sessPath_single {x : Sess} {ce : Bool} {i : Instr} (hi : i.issuable = true)
    (hs : i.session = false) (h : sessPath x ce [] = true) : sessPath x ce [.op i] = true := by
  obtain ⟨hd, hce⟩ := (sessPath_nil_iff x ce).1 h
  by_cases hm : i = .mask
  · subst hm
    exact (sessPath_nil_iff x false).2 ⟨hd, fun _ => rfl⟩
  by_cases hu : i = .unmask
  · subst hu
    refine (sessPath_nil_iff x _).2 ⟨hd, fun hx => ?_⟩
    rw [if_pos (Or.inr hx), hce hx]
  rw [sessPath_op x ce [] hm hu, h, Micro.wf, hi, hs]
  rfl

/-! #### The expansions -/

theorem writeString_plain (bytes : List Byte) : (writeString bytes).all Micro.plain = true := by
  simp [writeString, Micro.plain, Micro.wf, Instr.issuable, Instr.session]

/-- Only a session operation expands to anything but plain steps. -/
theorem expansion_plain {i : Instr} (s : State) (h : i.session = false) :
    (expansion i s).all Micro.plain = true := by
  cases i with
  | record | whdr | wtrl | wlbl => exact writeString_plain _
  | wbyte | nvWait => rw [expansion]; split_ifs <;> rfl
  | sInit | sPoll | sClose | sIdle => cases h
  | _ => rfl

theorem initSeq_path (ce : Bool) : sessPath .init ce initSeq = true := rfl

theorem pollSeq_path (ce : Bool) : sessPath .collecting ce pollSeq = true := rfl

theorem drainSeq_path (ce : Bool) :
    sessPath .draining ce (drainSeq ++ [.setSess .collecting]) = true := rfl

theorem closeSeq_path (ce : Bool) : sessPath .closing ce closeSeq = true := rfl

theorem recordSeq_plain : recordSeq.all Micro.plain = true := rfl

/-! #### SESS, CE and USTEP through every step -/

/-- The fields of `Inv` about SESS, CE and USTEP. -/
structure CtrlInv (x : Sess) (ce : Bool) (ms : List Micro) : Prop where
  idle_masked : x = .idle → ce = false
  path : sessPath x ce ms = true

/-- Outside IDLE the course of the session is all there is to show. -/
theorem CtrlInv.of_path {x : Sess} {ce : Bool} {ms : List Micro} (hx : x ≠ .idle)
    (h : sessPath x ce ms = true) : CtrlInv x ce ms := ⟨fun e => absurd e hx, h⟩

/-- TIMER, PIN and NVDEV touch none of the three. -/
theorem CtrlInv.event {s : State} {i : Instr} (hi : i = .tick ∨ i = .edge ∨ i = .nvdone)
    (h : CtrlInv s.sess s.ce s.ustep) : CtrlInv (after i s).sess (after i s).ce (after i s).ustep := by
  have hframe : (after i s).sess = s.sess ∧ (after i s).ce = s.ce ∧ expansion i s = [] := by
    obtain rfl | rfl | rfl := hi <;>
      exact ⟨after_sess_of_ne s nofun, after_ce_of_ne s nofun nofun, rfl⟩
  obtain ⟨hx, hc, he⟩ := hframe
  rwa [after_ustep, hx, hc, he]

/-- Running an operation of SEQ's list: MASK and UNMASK move CE as the list foresees, the others put plain steps
in front of it. -/
theorem CtrlInv.op {s : State} {i : Instr} (h : CtrlInv s.sess s.ce (.op i :: s.ustep)) :
    CtrlInv (after i s).sess (after i s).ce (after i s).ustep := by
  obtain ⟨hi, hp⟩ := h
  have hs := session_of_path hp
  by_cases hm : i = .mask
  · subst hm
    exact ⟨fun _ => rfl, hp⟩
  by_cases hu : i = .unmask
  · subst hu
    rw [after_unmask_eq]
    split_ifs with hx
    · exact ⟨hi, by simpa [sessPath, hx] using hp⟩
    · exact ⟨fun e => absurd (Or.inr e) hx, by simpa [sessPath, hx] using hp⟩
  rw [sessPath_op _ _ _ hm hu, Bool.and_eq_true] at hp
  rw [after_sess_of_ne s (by rintro rfl; cases hs), after_ce_of_ne s hm hu, after_ustep]
  exact ⟨hi, (sessPath_append_plain _ _ _ (expansion_plain s hs)).trans hp.2⟩

/-- An operation issued between two operations: a session operation starts its own course, or is refused. -/
theorem CtrlInv.issue {s : State} {i : Instr} (hi : i.issuable = true) (hu : s.ustep = [])
    (h : CtrlInv s.sess s.ce s.ustep) : CtrlInv (after i s).sess (after i s).ce (after i s).ustep := by
  by_cases hs : i.session = false
  · exact CtrlInv.op ⟨h.idle_masked, hu ▸ sessPath_single hi hs (hu ▸ h.path)⟩
  cases i with
  | sInit =>
    rw [after_sInit_eq]
    split_ifs with hx
    · exact .of_path (by simp [hx]) (by simp [hx, hu, initSeq_path])
    · exact h
  | sPoll =>
    rw [after_sPoll_eq]
    split_ifs with hx
    · exact .of_path nofun (by simp [hu, sessPath])
    · exact .of_path (by simp [hx]) (by simp [hx, hu, pollSeq_path])
    · exact h
  | sClose =>
    rw [after_sClose_eq]
    split_ifs with hx
    · exact .of_path (by simp [hx]) (by simp [hx, hu, closeSeq_path])
    · exact h
  | sIdle =>
    rw [after_sIdle_eq]
    split_ifs <;> exact h
  | _ => exact absurd rfl hs

/-- The micro-step at the head of USTEP. -/
theorem CtrlInv.micro {s : State} {m : Micro} (h : CtrlInv s.sess s.ce (m :: s.ustep)) :
    CtrlInv (afterMicro m s).sess (afterMicro m s).ce (afterMicro m s).ustep := by
  cases m with
  | op i => exact h.op
  | bumpCursor | savePv => exact ⟨h.idle_masked, h.path⟩
  | ifPv =>
    have hp : sessPath s.sess s.ce s.ustep = true := h.path
    simp only [afterMicro, ifPvStep]
    split_ifs
    · exact ⟨h.idle_masked, (sessPath_append_plain _ _ _ recordSeq_plain).trans hp⟩
    · exact ⟨h.idle_masked, hp⟩
  | ifPending =>
    obtain ⟨hx, hms⟩ := by simpa [sessPath] using h.path
    simp only [afterMicro, ifPendingStep]
    split_ifs
    · exact .of_path nofun (by simp [hms, drainSeq_path])
    · exact ⟨h.idle_masked, by simp [hx, hms, sessPath]⟩
  | setSess y =>
    obtain ⟨⟨-, hy⟩, hp⟩ := by simpa only [sessPath, Bool.and_eq_true] using h.path
    have hce : y = .idle → s.ce = false := fun e => by simpa [e] using hy
    exact ⟨hce, hp⟩

end Machine

end Sys2Proof
end

section
/-! ### What every step keeps -/

namespace Sys2Proof.Machine

/-! #### A step that is no reset: an operation, or a step that touches a few elements only -/

/-- Such a step either runs an operation, on `s` with USTEP and the model's own fields moved on, or writes at most
NV_CURSOR, PV_T, USTEP, SESS, the BAD_OP bit and the model's own fields. -/
inductive StepShape (s : State) : State → Prop where
  | op (i : Instr) (ms : List Micro) (ag : List Turn) (ro : Rota) (fc : Nat) :
    StepShape s (after i { s with ustep := ms, agenda := ag, rota := ro, freeCtr := fc })
  | control (cu : Cursor) (pv : Bool) (ms : List Micro) (x : Sess) (co : BitVec 8) (ag : List Turn) (ro : Rota)
      (fc : Nat) (hd : HostWord) (hco : co = s.cond ∨ co = setCondBit s.cond .badOp) :
    StepShape s { s with nvCursor := cu, pvT := pv, ustep := ms, sess := x, cond := co, agenda := ag, rota := ro,
                         freeCtr := fc, hostData := hd }

theorem StepKind.shape {s t : State} (h : StepKind s t) : StepShape s t := by
  cases h with
  | event i ag ro fc => exact .op i s.ustep ag ro fc
  | auto i ag ro | port i ag ro => exact .op i s.ustep ag ro s.freeCtr
  | pass | read => exact .control _ _ _ _ _ _ _ _ _ (.inl rfl)
  | refuse => exact .control _ _ _ _ _ _ _ _ _ (.inr rfl)
  | micro m ms ag ro =>
    cases m with
    | op i => exact .op i ms ag ro s.freeCtr
    | bumpCursor | savePv | setSess => exact .control _ _ _ _ _ _ _ _ _ (.inl rfl)
    | ifPv =>
      simp only [afterMicro, ifPvStep]
      split_ifs <;> exact .control _ _ _ _ _ _ _ _ _ (.inl rfl)
    | ifPending =>
      simp only [afterMicro, ifPendingStep]
      split_ifs <;> exact .control _ _ _ _ _ _ _ _ _ (.inl rfl)

theorem stepShape_of_not_resetsNext {s t : State} (hr : ¬ ResetsNext s) (h : step s = .next t) :
    StepShape s t :=
  (step_kind (not_exists.1 hr) h).shape

/-- A reset takes the block back with its configuration and the storage, whatever the model's own fields. -/
theorem step_of_resetsNext {s t : State} (hr : ResetsNext s) (h : step s = .next t) :
    ∃ strap ag ro fc hd, t = { State.afterReset s.cfg strap (nvAfterReset s) with
      agenda := ag, rota := ro, freeCtr := fc, hostData := hd } := by
  obtain ⟨strap, hs⟩ := hr
  rw [step_reset hs, Host.Outcome.next.injEq] at h
  obtain ⟨ag, ro, e⟩ := nextTurn_snd s
  rw [e] at h
  exact ⟨strap, ag, ro, s.freeCtr + 1, s.hostData, h.symm⟩

/-! #### The invariant -/

/-- The fields of `Inv` that speak neither of SESS nor of USTEP. -/
structure DataInv (s : State) : Prop where
  cfg_wf : s.cfg.wf = true
  queue : QueueInv s.cfg s.ts s.wrIdx s.rdIdx s.tick
  prev_narrow : s.prevTs.toNat < 2 ^ s.cfg.tickW
  nv_wf : Memory.wf ceiling s.nv = true
  acc_clear : AccClear s.acc s.bitpos
  arm_idle : s.nvArm = true → s.nvBusy = false
  counts : CountInv s.cond s.edgeFullDrops s.edgeMaskDrops s.nvCeilDrops

theorem inv_iff (s : State) : Inv s ↔ DataInv s ∧ CtrlInv s.sess s.ce s.ustep := by
  constructor
  · intro h
    exact ⟨{ h with queue := { h with }, counts := { h with } }, { h with }⟩
  · rintro ⟨hd, hc⟩
    exact { hd, hd.queue, hd.counts, hc with }

theorem DataInv.after {s : State} (i : Instr) (h : DataInv s) : DataInv (after i s) where
  cfg_wf := by rw [after_cfg, h.cfg_wf]
  queue := h.queue.after i h.cfg_wf
  prev_narrow := by rw [after_cfg]; exact after_prevTs_narrow i h.cfg_wf h.prev_narrow
  nv_wf := after_nv_wf i h.nv_wf
  acc_clear := h.acc_clear.after i
  arm_idle := after_arm_idle i h.arm_idle
  counts := h.counts.after i

theorem DataInv.step {s t : State} (h : DataInv s) (hk : StepKind s t) : DataInv t := by
  cases hk.shape with
  | op i => exact DataInv.after i { h with }
  | control _ _ _ _ co _ _ _ _ hco =>
    have hcount : CountInv co s.edgeFullDrops s.edgeMaskDrops s.nvCeilDrops := by
      obtain rfl | rfl := hco
      · exact h.counts
      · exact h.counts.raise rfl
    exact { h with counts := hcount }

/-- AUTO mode issues operations a list may hold or a session operation, never an event. -/
theorem issuable_of_autoOp {x : Sess} {i : Instr} (h : autoOp x = some i) : i.issuable = true := by
  cases x <;> cases h <;> rfl

theorem CtrlInv.step {s t : State} (h : CtrlInv s.sess s.ce s.ustep) (hk : StepKind s t) :
    CtrlInv t.sess t.ce t.ustep := by
  cases hk with
  | event i ag ro fc hi => exact CtrlInv.event hi h
  | micro m ms ag ro hm => exact CtrlInv.micro (hm ▸ h)
  | auto i ag ro hu hm hi => exact CtrlInv.issue (issuable_of_autoOp hi) hu h
  | port i ag ro hu hm hi => exact CtrlInv.issue hi hu h
  | pass | refuse | read => exact h

/-- The block after a reset, with any configuration and storage (rule R47). -/
theorem inv_afterReset {c : Config} (strap : Bool) {nv : List Host.Cell} (hc : c.wf = true)
    (hnv : Memory.wf ceiling nv = true) : Inv (State.afterReset c strap nv) where
  cfg_wf := hc
  ts_wf := rfl
  nv_wf := hnv
  ts_listed i := by simp [State.afterReset]
  ts_narrow i v h := by cases h
  tick_narrow := Nat.two_pow_pos c.tickW
  prev_narrow := Nat.two_pow_pos c.tickW
  rd_le_wr := le_rfl
  wr_le_cap := Nat.zero_le c.cap
  acc_clear k _ := by simp [State.afterReset]
  arm_idle := nofun
  full_count := by simp [State.afterReset, State.hasCond]
  mask_count := by simp [State.afterReset, State.hasCond]
  ceil_count := by simp [State.afterReset, State.hasCond]
  cond_zero := by simp [State.afterReset]
  idle_masked := nofun
  path := rfl

/-- A reset during a write leaves the storage canonical (rule R241). -/
theorem nvAfterReset_wf {s : State} (h : Memory.wf ceiling s.nv = true) :
    Memory.wf ceiling (nvAfterReset s) = true := by
  unfold nvAfterReset
  split_ifs
  · exact Memory.wf_write s.nv _ (nvAddr_lt_ceiling s.nvAddr) h
  · exact h

/-- Settles O53: a reset begins a new run; any other step keeps the data part of the invariant by the operation it
runs, and the control part by where the operation came from. -/
theorem everyStepKeepsTheInvariant : Obligations.EveryStepKeepsTheInvariant := by
  unfold Obligations.EveryStepKeepsTheInvariant
  intro s t h hstep
  by_cases hr : ResetsNext s
  · obtain ⟨strap, ag, ro, fc, hd, rfl⟩ := step_of_resetsNext hr hstep
    exact { inv_afterReset strap h.cfg_wf (nvAfterReset_wf h.nv_wf) with }
  · have hk := step_kind (not_exists.1 hr) hstep
    obtain ⟨hd, hc⟩ := (inv_iff s).1 h
    exact (inv_iff t).2 ⟨hd.step hk, hc.step hk⟩

/-- Settles O52: the fields one by one; nothing is in progress, so nothing is out of order. -/
theorem invariantHoldsAtReset : Obligations.InvariantHoldsAtReset := by
  unfold Obligations.InvariantHoldsAtReset
  intro c strap nv hc hnv
  refine ⟨inv_afterReset strap hc hnv, fun hs => ?_⟩
  exact { auto := hs, order := rfl, clean := by simp [State.afterReset, State.hasCond] }

/-- Settles O45: no operation writes the configuration or the strap, no other step does, and a reset keeps the
configuration. -/
theorem configurationNeverChanges : Obligations.ConfigurationNeverChanges := by
  unfold Obligations.ConfigurationNeverChanges
  intro s t hstep
  by_cases hr : ResetsNext s
  · obtain ⟨strap, ag, ro, fc, hd, rfl⟩ := step_of_resetsNext hr hstep
    exact ⟨rfl, fun hn => absurd hr hn⟩
  · cases stepShape_of_not_resetsNext hr hstep with
    | op i => exact ⟨after_cfg i _, fun _ => after_stepMode i _⟩
    | control => exact ⟨rfl, fun _ => rfl⟩

/-! #### The indices, the stored timestamps and the storage -/

/-- A captured edge advances WR_IDX by one and writes the entry above the stored ones; no other operation touches
either. -/
theorem after_wrIdx_tsRead {s : State} (i : Instr) (hcap : s.cfg.cap ≤ 127) :
    s.wrIdx.toNat ≤ (after i s).wrIdx.toNat ∧ (after i s).wrIdx.toNat ≤ s.wrIdx.toNat + 1 ∧
    ∀ k, k < s.wrIdx.toNat → (after i s).tsRead k = s.tsRead k := by
  by_cases he : i = .edge
  · subst he
    rw [after_edge_eq]
    split_ifs with hce hfull
    · have hs : s.tsAppend.wrIdx.toNat = s.wrIdx.toNat + 1 := idx_succ_toNat hfull hcap
      exact ⟨by omega, by omega, fun k hk => tsRead_tsAppend_other s (Nat.ne_of_lt hk)⟩
    · exact ⟨le_rfl, Nat.le_succ _, fun _ _ => rfl⟩
    · exact ⟨le_rfl, Nat.le_succ _, fun _ _ => rfl⟩
  · rw [after_wrIdx_of_ne s he]
    refine ⟨le_rfl, Nat.le_succ _, fun k _ => ?_⟩
    rw [State.tsRead, after_ts_of_ne s he, State.tsRead]

/-- ADV advances RD_IDX by one if something is pending; no other operation moves it. -/
theorem after_rdIdx (i : Instr) (s : State) :
    s.rdIdx.toNat ≤ (after i s).rdIdx.toNat ∧ (after i s).rdIdx.toNat ≤ s.rdIdx.toNat + 1 := by
  by_cases ha : i = .adv
  · subst ha
    rw [after_adv_eq]
    split_ifs with hp
    · have hs : (s.rdIdx + 1).toNat = s.rdIdx.toNat + 1 :=
        idx_succ_toNat (of_decide_eq_true hp) (Nat.le_of_lt_succ s.wrIdx.isLt)
      exact ⟨hs ▸ Nat.le_succ _, hs.le⟩
    · exact ⟨le_rfl, Nat.le_succ _⟩
  · rw [after_rdIdx_of_ne s ha]
    exact ⟨le_rfl, Nat.le_succ _⟩

/-- Settles O47: only a captured edge writes the buffer, at WR_IDX, and only ADV moves RD_IDX. -/
theorem storedTimestampsNeverChange : Obligations.StoredTimestampsNeverChange := by
  unfold Obligations.StoredTimestampsNeverChange
  intro s t hinv hr hstep
  have hcap : s.cfg.cap ≤ 127 := (Config.wf_bounds hinv.cfg_wf).2
  cases stepShape_of_not_resetsNext hr hstep with
  | op i ms ag ro fc =>
    obtain ⟨hwr, hwr', hts⟩ :=
      after_wrIdx_tsRead (s := { s with ustep := ms, agenda := ag, rota := ro, freeCtr := fc }) i hcap
    obtain ⟨hrd, hrd'⟩ := after_rdIdx i { s with ustep := ms, agenda := ag, rota := ro, freeCtr := fc }
    exact ⟨hwr, hwr', hrd, hrd', hts⟩
  | control => exact ⟨le_rfl, Nat.le_succ _, le_rfl, Nat.le_succ _, fun _ _ => rfl⟩

/-- An operation changes a byte of the storage only by completing the write in flight. -/
theorem after_nvRead_of_ne {s : State} {i : Instr} {a : Nat} (h : (after i s).nvRead a ≠ s.nvRead a) :
    s.nvBusy = true ∧ a = s.nvAddr.toNat ∧ (after i s).nvRead a = s.nvData ∧
      (after i s).nvBusy = false := by
  have hi : i = .nvdone := by
    by_contra hne
    exact h (by rw [State.nvRead, after_nv_of_ne s hne, State.nvRead])
  subst hi
  rw [after_nvdone_eq] at h ⊢
  split_ifs at h ⊢ with hb
  · have ha : a = s.nvAddr.toNat := by
      by_contra hne
      exact h (nvRead_nvProgram_other s hne)
    exact ⟨hb, ha, ha ▸ nvRead_nvProgram_same s, rfl⟩
  · exact absurd rfl h

/-- Settles O48: only NVDONE writes the storage, and a busy device refuses NV.LOAD. -/
theorem storageChangesOnlyByTheWriteInFlight : Obligations.StorageChangesOnlyByTheWriteInFlight := by
  unfold Obligations.StorageChangesOnlyByTheWriteInFlight
  intro s t hr hstep
  cases stepShape_of_not_resetsNext hr hstep with
  | op i =>
    exact ⟨fun a h => after_nvRead_of_ne h, fun hb => ⟨after_nvAddr_of_busy _ hb, after_nvData_of_busy _ hb⟩⟩
  | control => exact ⟨fun a h => absurd rfl h, fun _ => ⟨rfl, rfl⟩⟩

/-- Settles O50: an operation that is none of the five leaves RES as it was. -/
theorem onlyFiveOperationsWriteRes : Obligations.OnlyFiveOperationsWriteRes := by
  unfold Obligations.OnlyFiveOperationsWriteRes
  intro i s t hexec hne
  rw [exec_next_iff] at hexec
  subst hexec
  by_contra hi
  push Not at hi
  obtain ⟨hn, hh, hp, hd, hc⟩ := hi
  exact hne (after_res_of_ne s hn hh hp hd hc)

end Sys2Proof.Machine
end

section
/-! ### What HOST sees -/

namespace Sys2Proof.Machine

/-- A word with `n` bits put below it. -/
theorem append_toNat {m n : Nat} (v : BitVec m) (w : BitVec n) :
    (v ++ w).toNat = v.toNat * 2 ^ n + w.toNat := by
  rw [BitVec.toNat_append, ← Nat.shiftLeft_add_eq_or_of_lt w.isLt, Nat.shiftLeft_eq]

/-- STATUS as a sum: each field of rule R43 weighs 2 to its bit. -/
theorem statusWord_toNat (s : State) : (statusWord s).toNat =
    (sessCode s.sess).toNat + 8 * s.ce.toNat + 16 * s.nvBusy.toNat + 32 * s.nvArm.toNat +
      64 * s.nvMode.toNat + 128 * s.prevValid.toNat + 256 * s.stepMode.toNat + 512 * s.pending.toNat +
      1024 * s.done.toNat := by
  simp only [statusWord, append_toNat, BitVec.toNat_ofBool, BitVec.toNat_ofNat]
  omega

theorem pending_toNat (s : State) :
    s.pending.toNat = if s.rdIdx.toNat < s.wrIdx.toNat then 1 else 0 := by
  simp [State.pending, Bool.toNat, Bool.cond_decide]

theorem done_toNat (s : State) : s.done.toNat = if s.sess = .idle ∧ s.nvBusy = false then 1 else 0 := by
  simp [State.done, Bool.toNat]

theorem hostRead_register {a : HostAddr} (s : State) (h : a.toNat < 0x40) :
    hostRead a s = registerWord a.toNat s := if_pos h

theorem hostRead_timestamp {a : HostAddr} (s : State) (hl : 0x40 ≤ a.toNat) (hr : a.toNat < 0x100) :
    hostRead a s = tsWindow (a.toNat - 0x40) s := by
  rw [hostRead, if_neg (Nat.not_lt.2 hl), if_pos hr]

theorem hostRead_storage {a : HostAddr} (s : State) (h : 0x100 ≤ a.toNat) :
    hostRead a s = nvWindow (a.toNat - 0x100) s := by
  rw [hostRead, if_neg (by omega), if_neg (Nat.not_lt.2 h)]

theorem registerWord_reserved {n : Nat} (s : State) (h : 0x10 ≤ n) : registerWord n s = 0 := by
  obtain ⟨k, rfl⟩ := Nat.exists_eq_add_of_le' h
  rfl

theorem tsWindow_toNat (i : Nat) (s : State) : (tsWindow i s).toNat =
    if i < s.cfg.cap ∧ i < s.wrIdx.toNat then (s.tsRead i).toNat else 0 := by
  unfold tsWindow
  split_ifs
  · exact BitVec.toNat_setWidth_of_le (by decide)
  · rfl

theorem nvWindow_toNat {a : Nat} {s : State} (h : s.nvBusy = false ∨ a ≠ s.nvAddr.toNat) :
    (nvWindow a s).toNat = (s.nvRead a).toNat := by
  have hf : (s.nvBusy && decide (a = s.nvAddr.toNat)) = false := by
    simpa [imp_iff_not_or] using h
  rw [nvWindow, hf]
  exact BitVec.toNat_setWidth_of_le (by decide)

theorem nvWindow_lt (a : Nat) (s : State) : (nvWindow a s).toNat < 256 := by
  unfold nvWindow
  split_ifs <;> rw [BitVec.toNat_setWidth_of_le (by decide)] <;> exact BitVec.isLt _

/-- Settles O56: STATUS is the sum of its fields, each register is its element widened, and each of the two windows
is read through its own lemma. -/
theorem hostSeesTheRegisterMap : Obligations.HostSeesTheRegisterMap := by
  unfold Obligations.HostSeesTheRegisterMap
  intro s
  have hwide {w : Nat} (v : BitVec w) (hw : w ≤ 32) : (v.setWidth 32).toNat = v.toNat :=
    BitVec.toNat_setWidth_of_le hw
  refine ⟨?_, hwide s.tick (by decide), hwide s.wrIdx (by decide), hwide s.rdIdx (by decide),
    hwide s.prevTs (by decide), hwide s.acc (by decide), hwide s.bitpos (by decide), hwide s.cmd (by decide),
    hwide s.frames (by decide), hwide s.nvCursor (by decide), ?_, hwide s.edgeFullDrops (by decide),
    hwide s.edgeMaskDrops (by decide), hwide s.nvCeilDrops (by decide), hwide s.res (by decide),
    hwide s.cond (by decide),
    fun a hl hr => ?_, fun a hl hr => ?_, fun a hl => ⟨fun h => ?_, ?_⟩⟩
  · rw [← pending_toNat, ← done_toNat]
    exact statusWord_toNat s
  · have hpair := append_toNat s.nvAddr s.nvData
    exact (hwide (s.nvAddr ++ s.nvData) (by decide)).trans (by omega)
  · rw [hostRead_register s hr, registerWord_reserved s hl]
  · rw [hostRead_timestamp s hl hr, tsWindow_toNat]
  · rw [hostRead_storage s hl, nvWindow_toNat h]
  · rw [hostRead_storage s hl]
    exact nvWindow_lt _ s

/-- When HOST has the bus, the turn at the head of the agenda is taken. -/
theorem step_host_bus {s : State} {a : HostAct} {rest : List Turn} (hbus : s.stepMode = false ∨ s.ustep = [])
    (h : s.agenda = .host a :: rest) : step s = takeTurn (.host a) { s with agenda := rest } := by
  have hheld : hostHeld (.host a) s = false := by
    obtain hm | hu := hbus <;> simp [hostHeld, State.seqIdle, *]
  have hnext : nextTurn s = (.host a, { s with agenda := rest }) := by
    simp [nextTurn, h, hheld]
  rw [step, advance, hnext]

/-- Settles O57: HOST's turn is taken at once; a read only fills the model's own fields, and a write that misses OPW
passes. -/
theorem hostReadsAndIgnoredWritesChangeNothing : Obligations.HostReadsAndIgnoredWritesChangeNothing := by
  unfold Obligations.HostReadsAndIgnoredWritesChangeNothing
  intro s a rest hbus
  refine ⟨fun h => ?_, fun v ha h => ?_⟩
  · exact ⟨hostReadStep a { s with agenda := rest }, step_host_bus hbus h, rfl, rfl⟩
  · rw [step_host_bus hbus h]
    exact if_neg ha

end Sys2Proof.Machine
end

section
/-! ### The operation word: fields under a mask, and the rows of the opcode table (rules R85 to R91) -/

namespace Sys2Proof

section
variable (w v : OpWord)

@[simp] theorem OpWord.z_and : OpWord.z (w &&& v) = OpWord.z w &&& OpWord.z v := by
  simp [OpWord.z, BitVec.extractLsb'_and]

@[simp] theorem OpWord.r_and : OpWord.r (w &&& v) = (OpWord.r w && OpWord.r v) := by
  simp [OpWord.r]

@[simp] theorem OpWord.op_and : OpWord.op (w &&& v) = OpWord.op w &&& OpWord.op v := by
  simp [OpWord.op, BitVec.extractLsb'_and]

@[simp] theorem OpWord.imm_and : OpWord.imm (w &&& v) = OpWord.imm w &&& OpWord.imm v := by
  simp [OpWord.imm, BitVec.extractLsb'_and]

variable {w v}

/-- Words with Z = 0 are told apart by their other three fields. -/
theorem OpWord.ext_of_z (hw : OpWord.z w = 0) (hv : OpWord.z v = 0) (hr : OpWord.r w = OpWord.r v)
    (hop : OpWord.op w = OpWord.op v) (himm : OpWord.imm w = OpWord.imm v) : w = v := by
  rw [OpWord.eq_make w hw, OpWord.eq_make v hv, hr, hop, himm]

/-- On imm[1:0] two immediates agree when they agree under the mask 3. -/
theorem and_three_inj {a b : Word} :
    a &&& 3#16 = b &&& 3#16 ↔ a.extractLsb' 0 2 = b.extractLsb' 0 2 := by
  have hmod (c : Word) : (c &&& 3#16).toNat = (c.extractLsb' 0 2).toNat := by
    simpa using Nat.and_two_pow_sub_one_eq_mod c.toNat 2
  rw [← BitVec.toNat_inj, hmod, hmod, BitVec.toNat_inj]

/-- The last of the four 2-bit codes. -/
theorem toNat_eq_three {c : BitVec 2} (h₀ : c.toNat ≠ 0) (h₁ : c.toNat ≠ 1) (h₂ : c.toNat ≠ 2) :
    c.toNat = 3 := by omega

/-- Two words agree on a mask that covers Z and op when they agree on those and on what it covers of R and imm. -/
theorem agree_iff {m : OpWord} (hz : OpWord.z m = BitVec.allOnes 7) (hop : OpWord.op m = BitVec.allOnes 8)
    (hv : OpWord.z v = 0) : w &&& m = v &&& m ↔
    OpWord.z w = 0 ∧ OpWord.op w = OpWord.op v ∧ (OpWord.r w && OpWord.r m) = (OpWord.r v && OpWord.r m) ∧
      OpWord.imm w &&& OpWord.imm m = OpWord.imm v &&& OpWord.imm m := by
  constructor
  · intro h
    refine ⟨?_, ?_, by simpa using congrArg OpWord.r h, by simpa using congrArg OpWord.imm h⟩
    · simpa only [OpWord.z_and, hz, BitVec.and_allOnes, hv] using congrArg OpWord.z h
    · simpa only [OpWord.op_and, hop, BitVec.and_allOnes] using congrArg OpWord.op h
  · rintro ⟨hw, ho, hr, hi⟩
    exact OpWord.ext_of_z (by simp [hw]) (by simp [hv]) (by simpa using hr) (by simp [ho]) (by simpa using hi)

/-- Agreement on the mask of an event row: the whole word (rule R91). -/
theorem agree_maskExact_iff : w &&& maskExact = v &&& maskExact ↔ w = v := by
  rw [show maskExact = BitVec.allOnes 32 from rfl, BitVec.and_allOnes, BitVec.and_allOnes]

/-- Agreement on the mask of an ordinary row: Z and op (rule R91). -/
theorem agree_maskZOp_iff (hv : OpWord.z v = 0) :
    w &&& maskZOp = v &&& maskZOp ↔ OpWord.z w = 0 ∧ OpWord.op w = OpWord.op v := by
  have hr : OpWord.r maskZOp = false := rfl
  have himm : OpWord.imm maskZOp = 0 := rfl
  simp [agree_iff (m := maskZOp) rfl rfl hv, hr, himm]

/-- Agreement on the mask of the DEC.R row: Z, op and R (rule R91). -/
theorem agree_maskDecR_iff (hv : OpWord.z v = 0) : w &&& maskDecR = v &&& maskDecR ↔
    OpWord.z w = 0 ∧ OpWord.op w = OpWord.op v ∧ OpWord.r w = OpWord.r v := by
  have hr : OpWord.r maskDecR = true := rfl
  have himm : OpWord.imm maskDecR = 0 := rfl
  simp [agree_iff (m := maskDecR) rfl rfl hv, hr, himm]

/-- Agreement on the mask of a fixed DEC row: Z, op, R and imm[1:0] (rule R91). -/
theorem agree_maskDec_iff (hv : OpWord.z v = 0) : w &&& maskDec = v &&& maskDec ↔
    OpWord.z w = 0 ∧ OpWord.op w = OpWord.op v ∧ OpWord.r w = OpWord.r v ∧
      (OpWord.imm w).extractLsb' 0 2 = (OpWord.imm v).extractLsb' 0 2 := by
  have hr : OpWord.r maskDec = true := rfl
  have himm : OpWord.imm maskDec = 3#16 := rfl
  simp [agree_iff (m := maskDec) rfl rfl hv, hr, himm, and_three_inj]

end

/-! #### The canonical words and their rows -/

/-- Every operation with every operand comes back from its word (rules R85, R88). -/
theorem decode_encode (i : Instr) : decode (encode i) = some i :=
  open Laws in match i with
  | .tick => RoundTrip.tick | .edge => RoundTrip.edge | .nvdone => RoundTrip.nvdone
  | .now => RoundTrip.now | .hasp => RoundTrip.hasp | .peek => RoundTrip.peek | .adv => RoundTrip.adv
  | .mask => RoundTrip.mask | .unmask => RoundTrip.unmask
  | .delta t => RoundTrip.delta t | .classify d => RoundTrip.classify d
  | .decShort => RoundTrip.decShort | .decLow => RoundTrip.decLow | .decHigh => RoundTrip.decHigh
  | .decLong => RoundTrip.decLong | .decR => RoundTrip.decR
  | .wbyte b => RoundTrip.wbyte b | .seek a => RoundTrip.seek a | .record d => RoundTrip.record d
  | .whdr => RoundTrip.whdr | .wtrl => RoundTrip.wtrl | .wlbl => RoundTrip.wlbl
  | .nvWait => RoundTrip.nvWait | .nvMode => RoundTrip.nvMode | .nvLoad ad => RoundTrip.nvLoad ad
  | .nvArm => RoundTrip.nvArm | .nvCommit => RoundTrip.nvCommit
  | .sInit => RoundTrip.sInit | .sPoll => RoundTrip.sPoll | .sClose => RoundTrip.sClose
  | .sIdle => RoundTrip.sIdle

/-- Every operation's word belongs to the operation's row, a row of the table (rule R91). -/
theorem row_of_encode (i : Instr) : i.row ∈ opcodeTable ∧ i.row.matches (encode i) = true :=
  open Laws in match i with
  | .tick => TableRow.tick | .edge => TableRow.edge | .nvdone => TableRow.nvdone
  | .now => TableRow.now | .hasp => TableRow.hasp | .peek => TableRow.peek | .adv => TableRow.adv
  | .mask => TableRow.mask | .unmask => TableRow.unmask
  | .delta t => TableRow.delta t | .classify d => TableRow.classify d
  | .decShort => TableRow.decShort | .decLow => TableRow.decLow | .decHigh => TableRow.decHigh
  | .decLong => TableRow.decLong | .decR => TableRow.decR
  | .wbyte b => TableRow.wbyte b | .seek a => TableRow.seek a | .record d => TableRow.record d
  | .whdr => TableRow.whdr | .wtrl => TableRow.wtrl | .wlbl => TableRow.wlbl
  | .nvWait => TableRow.nvWait | .nvMode => TableRow.nvMode | .nvLoad ad => TableRow.nvLoad ad
  | .nvArm => TableRow.nvArm | .nvCommit => TableRow.nvCommit
  | .sInit => TableRow.sInit | .sPoll => TableRow.sPoll | .sClose => TableRow.sClose
  | .sIdle => TableRow.sIdle

/-- A word belongs to an operation's row when it agrees with the operation's own word on the row's mask. -/
theorem row_matches_iff_agree (i : Instr) (w : OpWord) :
    i.row.matches w = true ↔ w &&& i.row.mask = encode i &&& i.row.mask := by
  rw [Row.matches, decide_eq_true_eq, of_decide_eq_true (row_of_encode i).2]

theorem encodeOperand_z (op : BitVec 8) (o : Operand) : OpWord.z (encodeOperand op o) = 0 := by
  cases o <;> exact OpWord.z_make ..

theorem encode_z (i : Instr) : OpWord.z (encode i) = 0 := by
  cases i
  case delta | classify | wbyte | seek | record | nvLoad => exact encodeOperand_z ..
  all_goals exact OpWord.z_make ..

/-! #### The opcode map -/

section
variable {w v : OpWord} {i : Instr}

/-- With Z = 0 and an opcode above the three event opcodes, decoding is the opcode map. -/
theorem decode_eq_decodeSeq (hz : OpWord.z w = 0) (hop : 3 < (OpWord.op w).toNat) :
    decode w = decodeSeq w := by
  rw [OpWord.eq_make w hz]
  exact decode_make _ _ _ hop

/-- A decoded word is an event's own word or has Z = 0 and an opcode of SEQ. -/
theorem decode_eq_some (h : decode w = some i) : w = encode i ∨ OpWord.z w = 0 ∧ decodeSeq w = some i := by
  unfold decode at h
  split_ifs at h with ht he hn hz
  · cases h; exact .inl ht
  · cases h; exact .inl he
  · cases h; exact .inl hn
  · exact .inr ⟨hz, h⟩

/-- The DEC rows: R and, with R = 0, imm[1:0] tell which one. -/
theorem agree_of_decodeDec (hz : OpWord.z w = 0) (hop : OpWord.op w = 0x40) (h : decodeDec w = i) :
    w &&& i.row.mask = encode i &&& i.row.mask := by
  subst h
  unfold decodeDec
  split_ifs with hr
  · exact (agree_maskDecR_iff rfl).2 ⟨hz, hop, hr⟩
  · rw [Bool.not_eq_true] at hr
    have hlow (v : OpWord) (hv : OpWord.z v = 0 ∧ OpWord.op v = 0x40 ∧ OpWord.r v = false)
        (h : ((OpWord.imm w).extractLsb' 0 2).toNat = ((OpWord.imm v).extractLsb' 0 2).toNat) :
        w &&& maskDec = v &&& maskDec :=
      (agree_maskDec_iff hv.1).2
        ⟨hz, hop.trans hv.2.1.symm, hr.trans hv.2.2.symm, BitVec.eq_of_toNat_eq h⟩
    split
    · exact hlow _ ⟨rfl, rfl, rfl⟩ ‹_›
    · exact hlow _ ⟨rfl, rfl, rfl⟩ ‹_›
    · exact hlow _ ⟨rfl, rfl, rfl⟩ ‹_›
    next h₀ h₁ h₂ => exact hlow _ ⟨rfl, rfl, rfl⟩ (toNat_eq_three h₀ h₁ h₂)

/-- The word of an operation of SEQ belongs to the operation's row. -/
theorem agree_of_decodeSeq (hz : OpWord.z w = 0) (h : decodeSeq w = some i) :
    w &&& i.row.mask = encode i &&& i.row.mask := by
  unfold decodeSeq at h
  split at h <;> cases h
  case h_9 hop => exact agree_of_decodeDec hz (BitVec.eq_of_toNat_eq hop) rfl
  all_goals
    next hop =>
      refine (agree_maskZOp_iff (encode_z _)).2 ⟨hz, BitVec.eq_of_toNat_eq (hop.trans ?_)⟩
      simp [encode, encodePlain, Laws.encodeOperand_op]

/-- Under one opcode the map gives operations of one row, DEC's four fixed forms and DEC.R apart. -/
theorem decodeSeq_row_congr (hop : OpWord.op w = OpWord.op v)
    (hdec : OpWord.op v = 0x40 → decodeDec w = decodeDec v) :
    (decodeSeq w).map Instr.row = (decodeSeq v).map Instr.row := by
  unfold decodeSeq
  rw [hop]
  split
  case h_9 h => rw [hdec (BitVec.eq_of_toNat_eq h)]
  all_goals rfl

/-- A word with Z = 0 and an operation's opcode, and for DEC one of the same form, decodes to the operation's row. -/
theorem decode_row_of_op (hi : 3 < (OpWord.op (encode i)).toNat) (hz : OpWord.z w = 0)
    (hop : OpWord.op w = OpWord.op (encode i))
    (hdec : OpWord.op (encode i) = 0x40 → decodeDec w = decodeDec (encode i)) :
    (decode w).map Instr.row = some i.row :=
  calc (decode w).map Instr.row
    _ = (decodeSeq w).map Instr.row := by rw [decode_eq_decodeSeq hz (hop ▸ hi)]
    _ = (decodeSeq (encode i)).map Instr.row := decodeSeq_row_congr hop hdec
    _ = (decode (encode i)).map Instr.row := by rw [decode_eq_decodeSeq (encode_z i) hi]
    _ = some i.row := by rw [decode_encode]; rfl

/-- DEC's form depends on R and, with R = 0, on imm[1:0]. -/
theorem decodeDec_congr (hr : OpWord.r w = OpWord.r v)
    (himm : OpWord.r v = false → (OpWord.imm w).extractLsb' 0 2 = (OpWord.imm v).extractLsb' 0 2) :
    decodeDec w = decodeDec v := by
  unfold decodeDec
  rw [hr]
  split_ifs with h
  · rfl
  · rw [himm (Bool.not_eq_true _ ▸ h)]

/-- A word that belongs to an operation's row decodes to an operation of that row. -/
theorem decode_row_of_agree (h : w &&& i.row.mask = encode i &&& i.row.mask) :
    (decode w).map Instr.row = some i.row := by
  cases i
  case tick | edge | nvdone =>
    rw [agree_maskExact_iff.1 h, decode_encode]
    rfl
  case decShort | decLow | decHigh | decLong =>
    obtain ⟨hz, hop, hr, himm⟩ := (agree_maskDec_iff (encode_z _)).1 h
    exact decode_row_of_op (by decide) hz hop fun _ => decodeDec_congr hr fun _ => himm
  case decR =>
    obtain ⟨hz, hop, hr⟩ := (agree_maskDecR_iff (encode_z _)).1 h
    exact decode_row_of_op (by decide) hz hop fun _ => decodeDec_congr hr nofun
  all_goals
    obtain ⟨hz, hop⟩ := (agree_maskZOp_iff (encode_z _)).1 h
    exact decode_row_of_op (by simp [encode, encodePlain, Laws.encodeOperand_op]) hz hop
      fun h => by simp [encode, encodePlain, Laws.encodeOperand_op] at h

end

/-- The two readings of rule R91 agree: the rows' masks and the decoder's branches. -/
theorem row_matches_iff (i : Instr) (w : OpWord) :
    i.row.matches w = true ↔ (decode w).map Instr.row = some i.row := by
  refine ⟨fun h => decode_row_of_agree ((row_matches_iff_agree i w).1 h), fun h => ?_⟩
  obtain ⟨j, hj, hrow⟩ := Option.map_eq_some_iff.1 h
  rw [← hrow, row_matches_iff_agree]
  obtain rfl | ⟨hz, hseq⟩ := decode_eq_some hj
  · rfl
  · exact agree_of_decodeSeq hz hseq

theorem exists_row_of_mem {r : Row} (h : r ∈ opcodeTable) : ∃ i : Instr, i.row = r := by
  obtain ⟨i, -, hi⟩ := List.mem_map.1 h
  exact ⟨i, hi⟩

/-- Settles O2: the round trip is a law of each operation. -/
theorem decodeInvertsEncode : Obligations.DecodeInvertsEncode := by
  unfold Obligations.DecodeInvertsEncode
  exact decode_encode

/-- Settles O4: both rows are the row of what the word decodes to. -/
theorem opcodeRowsNeverOverlap : Obligations.OpcodeRowsNeverOverlap := by
  unfold Obligations.OpcodeRowsNeverOverlap
  intro r₁ h₁ r₂ h₂ w hw₁ hw₂
  obtain ⟨i, rfl⟩ := exists_row_of_mem h₁
  obtain ⟨j, rfl⟩ := exists_row_of_mem h₂
  exact Option.some.inj (((row_matches_iff i w).1 hw₁).symm.trans ((row_matches_iff j w).1 hw₂))

/-- Settles O3: the first row found matches, so it is the row of what the word decodes to; where none is found, the
word decodes to nothing, since its operation's row would match. -/
theorem decodeIsTheOpcodeTable : Obligations.DecodeIsTheOpcodeTable := by
  unfold Obligations.DecodeIsTheOpcodeTable
  intro w
  cases hfind : opcodeTable.find? (fun row => row.matches w) with
  | some r =>
    obtain ⟨i, rfl⟩ := exists_row_of_mem (List.mem_of_find?_eq_some hfind)
    have hmatch : i.row.matches w = true := List.find?_some (p := fun r => Row.matches r w) hfind
    exact (row_matches_iff i w).1 hmatch
  | none =>
    rw [Option.map_eq_none_iff, Option.eq_none_iff_forall_ne_some]
    intro i hi
    have hmatch : i.row.matches w = true := (row_matches_iff i w).2 (by rw [hi]; rfl)
    exact List.find?_eq_none.1 hfind i.row (row_of_encode i).1 hmatch

/-! #### The command port -/

section
variable {w : OpWord} {i : Instr}

/-- The opcode map gives operations of SEQ only. -/
theorem issuable_of_decodeSeq (h : decodeSeq w = some i) : i.issuable = true := by
  unfold decodeSeq at h
  split at h <;> cases h
  case h_9 =>
    unfold decodeDec
    split_ifs
    · rfl
    · split <;> rfl
  all_goals rfl

/-- The opcode map is defined on the opcodes of SEQ's rows (rule R88). -/
theorem decodeSeq_isSome_iff (w : OpWord) : (decodeSeq w).isSome = true ↔ (OpWord.op w).toNat ∈
    [0x10, 0x20, 0x21, 0x22, 0x23, 0x24, 0x30, 0x31, 0x40] ++ [0x50, 0x51, 0x52, 0x53, 0x54, 0x55] ++
      [0x58, 0x59, 0x5A, 0x5B, 0x5C, 0x60, 0x61, 0x62, 0x63] := by
  unfold decodeSeq
  split
  case h_25 => simp_all
  all_goals simp [*]

/-- On the port only the opcode map is left of the decoder: the event words are refused (rule R89), and the map
refuses their opcodes too. -/
theorem decodePort_eq (w : OpWord) : decodePort w = if OpWord.z w = 0#7 then decodeSeq w else none := by
  by_cases hev : w = 0x00010000#32 ∨ w = 0x00020000#32 ∨ w = 0x00030000#32
  · obtain rfl | rfl | rfl := hev <;> rfl
  · obtain ⟨ht, he, hn⟩ := by simpa only [not_or] using hev
    have hdec : decode w = if OpWord.z w = 0#7 then decodeSeq w else none := by
      rw [decode, if_neg ht, if_neg he, if_neg hn]
    rw [decodePort, hdec]
    split_ifs with hz
    · cases hi : decodeSeq w with
      | none => rfl
      | some i => exact if_pos (issuable_of_decodeSeq hi)
    · rfl

theorem decode_of_decodePort (h : decodePort w = some i) : decode w = some i := by
  unfold decodePort at h
  split at h
  · split_ifs at h
    exact ‹decode w = _›.trans h
  · cases h

end

/-- Settles O5: with Z = 0 the port takes what the opcode map takes. -/
theorem portAcceptsExactlySeqOpcodes : Obligations.PortAcceptsExactlySeqOpcodes := by
  unfold Obligations.PortAcceptsExactlySeqOpcodes
  intro w
  rw [decodePort_eq, ← decodeSeq_isSome_iff]
  split_ifs with hz <;> simp [hz]

/-- Settles O1: the decoder run on each word. -/
theorem writtenOutWordsDecode : Obligations.WrittenOutWordsDecode := by
  unfold Obligations.WrittenOutWordsDecode
  decide

end Sys2Proof
end

section
/-! ### Operands, session operations and the command port at work -/

namespace Sys2Proof.Machine

/-- Settles O6: R selects the source of `arg`, and each field is read by its own lemma. -/
theorem operandIsTheNamedFieldOfArg : Obligations.OperandIsTheNamedFieldOfArg := by
  unfold Obligations.OperandIsTheNamedFieldOfArg
  refine ⟨fun r op imm s => ?_, fun o s hw => ⟨truncTick_toNat _ _ hw, byteArg_toNat o s, addrArg_toNat o s,
    cursorArg_toNat o s, ?_⟩⟩
  · rw [OpWord.operand_make]
    cases r <;> rfl
  · rw [resSymbol, symbolCode_symbolOfCode]
    simp

/-- Settles O33: the test of SESS fails, and what is left is the refusal of rule R90. -/
theorem sessionOperationsRefuseOtherStates : Obligations.SessionOperationsRefuseOtherStates := by
  unfold Obligations.SessionOperationsRefuseOtherStates
  rintro s t rfl
  simp only [exec_eq, after_sInit_eq, after_sPoll_eq, after_sClose_eq, after_sIdle_eq]
  refine ⟨fun h => ?_, fun h => ?_, fun h => ?_, fun h => ?_⟩ <;>
  · rw [if_neg h]
    rfl

/-- A host write of `w` to OPW whose turn has come. -/
theorem step_portWrite {s : State} {w : OpWord} {rest : List Turn} (hbus : s.stepMode = false ∨ s.ustep = [])
    (h : s.agenda = .host (.write 0x10 w) :: rest) : step s = portWrite w { s with agenda := rest } :=
  step_host_bus hbus h

theorem portWrite_accepted {s : State} {w : OpWord} {i : Instr} (hm : s.stepMode = true)
    (hi : decodePort w = some i) : portWrite w s = exec i s := by
  simp [portWrite, hm, hi]

theorem portWrite_refused {s : State} {w : OpWord} (h : s.stepMode = false ∨ decodePort w = none) :
    portWrite w s = .next s.refuse := by
  obtain h | h := h <;> simp [portWrite, h]

/-- Settles O39: HOST has the bus, and the port runs what it decodes. -/
theorem portWriteRunsTheDecodedOperation : Obligations.PortWriteRunsTheDecodedOperation := by
  unfold Obligations.PortWriteRunsTheDecodedOperation
  intro s w i rest hm hu ha hi
  exact ⟨decode_of_decodePort hi, (step_portWrite (.inr hu) ha).trans (portWrite_accepted hm hi)⟩

/-- Settles O40: the opcodes 1 to 3 are none of SEQ's, and both refusals are the one of rule R90. -/
theorem refusedPortWritesOnlyRaiseBadOp : Obligations.RefusedPortWritesOnlyRaiseBadOp := by
  unfold Obligations.RefusedPortWritesOnlyRaiseBadOp
  refine ⟨fun w hop => ?_, fun s w rest ha h => ?_⟩
  · rw [← Option.not_isSome_iff_eq_none, portAcceptsExactlySeqOpcodes w]
    rintro ⟨-, hseq⟩
    revert hop hseq
    generalize (OpWord.op w).toNat = n
    revert n
    decide
  · exact (step_portWrite (h.imp_right And.left) ha).trans (portWrite_refused (h.imp_right And.right))

/-- While HOST is held the agent of the rota moves. -/
theorem step_host_held {s : State} {a : HostAct} {rest : List Turn} (hm : s.stepMode = true) (hu : s.ustep ≠ [])
    (hbus : a.isBus = true) (h : s.agenda = .host a :: rest) :
    step s = takeTurn s.rota.turn { s with rota := s.rota.next } := by
  have hheld : hostHeld (.host a) s = true := by simp [hostHeld, hbus, hm, State.seqIdle, hu]
  have hnext : nextTurn s = quietTurn s := by simp [nextTurn, h, hheld]
  rw [step, advance, hnext]
  rfl

theorem seqStep_of_ustep {s : State} {m : Micro} {ms : List Micro} (h : s.ustep = m :: ms) :
    seqStep s = .next (afterMicro m { s with ustep := ms }) := by
  rw [← runMicro_eq, seqStep, h]

/-- Settles O58: the held access stays where it is, and neither the micro-step SEQ has to take nor a TICK nor an NVDONE
touches the agenda. -/
theorem hostWaitsForTheOperationInProgress : Obligations.HostWaitsForTheOperationInProgress := by
  unfold Obligations.HostWaitsForTheOperationInProgress
  intro s a rest hm hu hbus ha
  have hstep := step_host_held hm hu hbus ha
  refine ⟨fun hr => ?_, fun hr => ?_, fun hr => ?_, ?_⟩
  · rw [hstep, hr]; rfl
  · rw [hstep, hr]; rfl
  · rw [hstep, hr]; rfl
  · obtain ⟨m, ms, hms⟩ := List.exists_cons_of_ne_nil hu
    rw [hstep]
    cases s.rota with
    | seq => exact ⟨_, seqStep_of_ustep hms, afterMicro_agenda m _⟩
    | timer => exact ⟨_, exec_eq .tick _, after_agenda .tick _⟩
    | nvdev => exact ⟨_, exec_eq .nvdone _, after_agenda .nvdone _⟩

end Sys2Proof.Machine
end

section
/-! ### The Clock/Timer Service, and who gets a turn -/

namespace Sys2Proof.Machine

/-- Settles O7: cutting to 16 bits before cutting to TICK_W bits changes nothing. -/
theorem tickCountsModulo : Obligations.TickCountsModulo := by
  unfold Obligations.TickCountsModulo
  refine ⟨rfl, rfl, fun s hc => ⟨after .tick s, exec_eq .tick s, ?_, rfl⟩⟩
  have hw : s.cfg.tickW ≤ 16 := (Config.wf_bounds hc).1
  rw [after_tick_eq, truncTick_toNat s.cfg _ hw, BitVec.toNat_add]
  exact Nat.mod_mod_of_dvd _ (Nat.pow_dvd_pow 2 hw)

/-- Settles O8: the two operations as updates of RES. -/
theorem nowAndHaspWriteOnlyRes : Obligations.NowAndHaspWriteOnlyRes := by
  unfold Obligations.NowAndHaspWriteOnlyRes
  refine ⟨rfl, rfl, fun s => ⟨⟨after .now s, exec_eq .now s, rfl, rfl⟩,
    after .hasp s, exec_eq .hasp s, ?_, rfl⟩⟩
  simp only [after_hasp_eq, State.pending, decide_eq_true_eq]
  split_ifs <;> rfl

/-! #### What SEQ and the command port can do with a turn -/

/-- SEQ takes a micro-step, issues the session operation of AUTO mode, or passes (rules R191, R192, R194). -/
theorem seqStep_cases {s t : State} (h : seqStep s = .next t) :
    (∃ m ms, s.ustep = m :: ms ∧ t = afterMicro m { s with ustep := ms }) ∨
    (s.ustep = [] ∧ s.stepMode = false ∧ ∃ i, autoOp s.sess = some i ∧ t = after i s) ∨
    (s.ustep = [] ∧ (s.stepMode = true ∨ autoOp s.sess = none) ∧ t = s) := by
  cases hu : s.ustep with
  | cons m ms =>
    rw [seqStep_of_ustep hu, Host.Outcome.next.injEq] at h
    exact .inl ⟨m, ms, rfl, h.symm⟩
  | nil =>
    rw [seqStep, hu] at h
    dsimp only [issueNext] at h
    split_ifs at h with hm
    · exact .inr (.inr ⟨rfl, .inl hm, (Host.Outcome.next.inj h).symm⟩)
    · split at h
      next i hi => exact .inr (.inl ⟨rfl, Bool.not_eq_true _ ▸ hm, i, hi, (exec_next_iff i s t).1 h⟩)
      next hi => exact .inr (.inr ⟨rfl, .inr hi, (Host.Outcome.next.inj h).symm⟩)

/-- The port runs an operation of SEQ or refuses (rules R90, R95). -/
theorem portWrite_cases {s t : State} {w : OpWord} (h : portWrite w s = .next t) :
    (s.stepMode = true ∧ ∃ i, decodePort w = some i ∧ t = after i s) ∨
    ((s.stepMode = false ∨ decodePort w = none) ∧ t = s.refuse) := by
  by_cases hr : s.stepMode = false ∨ decodePort w = none
  · rw [portWrite_refused hr, Host.Outcome.next.injEq] at h
    exact .inr ⟨hr, h.symm⟩
  · obtain ⟨hm, hd⟩ := not_or.1 hr
    obtain ⟨i, hi⟩ := Option.ne_none_iff_exists'.1 hd
    rw [Bool.not_eq_false] at hm
    rw [portWrite_accepted hm hi, exec_next_iff] at h
    exact .inl ⟨hm, i, hi, h⟩

/-- A host write goes to the port or is ignored (rule R42). -/
theorem hostWriteStep_cases {s t : State} {a : HostAddr} {v : HostWord} (h : hostWriteStep a v s = .next t) :
    (a = opwAddr ∧ portWrite v s = .next t) ∨ (a ≠ opwAddr ∧ t = s) := by
  unfold hostWriteStep at h
  split_ifs at h with ha
  · exact .inl ⟨ha, h⟩
  · exact .inr ⟨ha, (Host.Outcome.next.inj h).symm⟩

/-! #### Only a TICK or a reset moves TICK -/

theorem ne_tick_of_issuable {i : Instr} (h : i.issuable = true) : i ≠ .tick := by
  rintro rfl
  cases h

theorem afterMicro_tick_of_ne {m : Micro} (s : State) (h : m ≠ .op .tick) :
    (afterMicro m s).tick = s.tick := by
  cases m with
  | op i => exact after_tick_of_ne s fun e => h (congrArg Micro.op e)
  | bumpCursor | savePv | setSess => rfl
  | ifPv => simp [afterMicro, ifPvStep, apply_ite State.tick]
  | ifPending => simp [afterMicro, ifPendingStep, apply_ite State.tick]

/-- SEQ's list holds no TICK, and AUTO mode issues none. -/
theorem seqStep_tick {s t : State} (hp : sessPath s.sess s.ce s.ustep = true) (h : seqStep s = .next t) :
    t.tick = s.tick := by
  obtain ⟨m, ms, hu, rfl⟩ | ⟨-, -, i, hi, rfl⟩ | ⟨-, -, rfl⟩ := seqStep_cases h
  · refine afterMicro_tick_of_ne _ ?_
    rintro rfl
    rw [hu] at hp
    cases hp
  · exact after_tick_of_ne s (ne_tick_of_issuable (issuable_of_autoOp hi))
  · rfl

/-- The port refuses the word of a TICK. -/
theorem portWrite_tick {s t : State} {w : OpWord} (h : portWrite w s = .next t) : t.tick = s.tick := by
  obtain ⟨-, i, hi, rfl⟩ | ⟨-, rfl⟩ := portWrite_cases h
  · exact after_tick_of_ne s (ne_tick_of_issuable (issuable_of_decodePort hi))
  · rfl

theorem takeTurn_tick {x : Turn} {s t : State} (hp : sessPath s.sess s.ce s.ustep = true)
    (hr : ∀ strap, x ≠ .host (.reset strap)) (h : takeTurn x s = .next t) (ht : t.tick ≠ s.tick) :
    x = .timer ∨ x = .tickAndEdge := by
  cases x with
  | timer => exact .inl rfl
  | tickAndEdge => exact .inr rfl
  | pin =>
    obtain rfl := (exec_next_iff .edge s t).1 h
    exact absurd (after_tick_of_ne (i := .edge) s nofun) ht
  | nvdev =>
    obtain rfl := (exec_next_iff .nvdone s t).1 h
    exact absurd (after_tick_of_ne (i := .nvdone) s nofun) ht
  | seq => exact absurd (seqStep_tick hp h) ht
  | host a =>
    cases a with
    | read a =>
      obtain rfl := Host.Outcome.next.inj h
      exact absurd rfl ht
    | write a v =>
      obtain ⟨-, hw⟩ | ⟨-, rfl⟩ := hostWriteStep_cases h
      · exact absurd (portWrite_tick hw) ht
      · exact absurd rfl ht
    | reset strap => exact absurd rfl (hr strap)

/-! #### What a turn does to the agenda and the rota -/

theorem seqStep_agenda_rota {s t : State} (h : seqStep s = .next t) :
    t.agenda = s.agenda ∧ t.rota = s.rota := by
  obtain ⟨m, ms, -, rfl⟩ | ⟨-, -, i, -, rfl⟩ | ⟨-, -, rfl⟩ := seqStep_cases h
  · exact ⟨afterMicro_agenda m _, afterMicro_rota m _⟩
  · exact ⟨after_agenda i s, after_rota i s⟩
  · exact ⟨rfl, rfl⟩

theorem portWrite_agenda_rota {s t : State} {w : OpWord} (h : portWrite w s = .next t) :
    t.agenda = s.agenda ∧ t.rota = s.rota := by
  obtain ⟨-, i, -, rfl⟩ | ⟨-, rfl⟩ := portWrite_cases h
  · exact ⟨after_agenda i s, after_rota i s⟩
  · exact ⟨rfl, rfl⟩

/-- A coincidence leaves the second of its two steps on the agenda (60_exceptions.md rule R216). -/
theorem tieStep_agenda_rota {s t : State} (h : tieStep s = .next t) :
    (t.agenda = .pin :: s.agenda ∨ t.agenda = .timer :: s.agenda) ∧ t.rota = s.rota := by
  unfold tieStep at h
  split_ifs at h <;> rw [exec_next_iff] at h <;> subst h
  · exact ⟨.inl (after_agenda .tick _), after_rota .tick _⟩
  · exact ⟨.inr (after_agenda .edge _), after_rota .edge _⟩

/-- Any other turn leaves the agenda alone, a reset among them (log entry 13). -/
theorem takeTurn_agenda_rota {x : Turn} {s t : State} (hx : x ≠ .tickAndEdge) (h : takeTurn x s = .next t) :
    t.agenda = s.agenda ∧ t.rota = s.rota := by
  have hexec (i : Instr) (hi : exec i s = .next t) : t.agenda = s.agenda ∧ t.rota = s.rota := by
    obtain rfl := (exec_next_iff i s t).1 hi
    exact ⟨after_agenda i s, after_rota i s⟩
  cases x with
  | timer => exact hexec .tick h
  | pin => exact hexec .edge h
  | nvdev => exact hexec .nvdone h
  | seq => exact seqStep_agenda_rota h
  | tickAndEdge => exact absurd rfl hx
  | host a =>
    cases a with
    | read | reset =>
      obtain rfl := Host.Outcome.next.inj h
      exact ⟨rfl, rfl⟩
    | write a v =>
      obtain ⟨-, hw⟩ | ⟨-, rfl⟩ := hostWriteStep_cases h
      · exact portWrite_agenda_rota hw
      · exact ⟨rfl, rfl⟩

/-- The next turn is the rota's, or the head of the agenda. -/
theorem nextTurn_cases (s : State) : nextTurn s = quietTurn s ∨
    ∃ x rest, s.agenda = x :: rest ∧ nextTurn s = (x, { s with agenda := rest }) := by
  unfold nextTurn
  split
  · exact .inl rfl
  next x rest ha =>
    split_ifs
    · exact .inl rfl
    · exact .inr ⟨x, rest, ha, rfl⟩

theorem step_quiet {s : State} (h : s.agenda = []) :
    step s = takeTurn s.rota.turn { s with rota := s.rota.next } := by
  have hnext : nextTurn s = quietTurn s := by simp [nextTurn, h]
  rw [step, advance, hnext]
  rfl

/-! #### Every endless run is fair -/

/-- How many steps a turn of the agenda takes: a coincidence takes two. -/
def Turn.steps : Turn → Nat
  | .tickAndEdge => 2
  | _ => 1

/-- How many steps the agenda takes. -/
def agendaSteps (ag : List Turn) : Nat := (ag.map Turn.steps).sum

/-- How many turns of the rota go to others before `r` has its own. -/
def Rota.turnsBefore (r q : Rota) : Nat :=
  if q = r then 0 else if q.next = r then 1 else 2

/-- A bound on how many steps pass before `r` has its turn: the agenda runs down, and then the rota comes round. -/
def stepsBefore (r : Rota) (s : State) : Nat := agendaSteps s.agenda + r.turnsBefore s.rota

theorem agendaSteps_cons (x : Turn) (ag : List Turn) : agendaSteps (x :: ag) = x.steps + agendaSteps ag := by
  simp [agendaSteps]

theorem Rota.turnsBefore_next {r q : Rota} (h : q ≠ r) : r.turnsBefore q.next < r.turnsBefore q := by
  cases r <;> cases q <;> simp [Rota.turnsBefore, Rota.next] at h ⊢

theorem Rota.turn_ne_tickAndEdge (r : Rota) : r.turn ≠ .tickAndEdge := by
  cases r <;> nofun

/-- Taking a turn off the agenda takes at least one step off it. -/
theorem takeTurn_agendaSteps {x : Turn} {s t : State} (h : takeTurn x s = .next t) :
    agendaSteps t.agenda < agendaSteps (x :: s.agenda) ∧ t.rota = s.rota := by
  rw [agendaSteps_cons]
  by_cases hx : x = .tickAndEdge
  · subst hx
    obtain ⟨ha, hr⟩ := tieStep_agenda_rota h
    refine ⟨?_, hr⟩
    obtain ha | ha := ha <;> rw [ha, agendaSteps_cons] <;> simp [Turn.steps]
  · obtain ⟨ha, hr⟩ := takeTurn_agenda_rota hx h
    have hpos : 0 < x.steps := by cases x <;> simp [Turn.steps]
    exact ⟨by rw [ha]; omega, hr⟩

/-- A step is a turn of `r` or brings its turn nearer. -/
theorem turn_or_stepsBefore_lt {s t : State} (r : Rota) (h : step s = .next t) :
    (nextTurn s).1 = r.turn ∨ stepsBefore r t < stepsBefore r s := by
  unfold step advance at h
  obtain hq | ⟨x, rest, ha, hn⟩ := nextTurn_cases s
  · rw [hq] at h ⊢
    by_cases hr : s.rota = r
    · exact .inl (congrArg Rota.turn hr)
    · obtain ⟨hag, hro⟩ := takeTurn_agenda_rota s.rota.turn_ne_tickAndEdge h
      right
      rw [stepsBefore, hag, hro]
      exact Nat.add_lt_add_left (Rota.turnsBefore_next hr) _
  · rw [hn] at h
    obtain ⟨hag, hro⟩ := takeTurn_agendaSteps h
    right
    rw [stepsBefore, hro, stepsBefore, ha]
    exact Nat.add_lt_add_right hag _

/-- In an endless run each agent of the rota keeps getting its turn: until it does, every step brings it nearer. -/
theorem exists_turn_of_run {x : Nat → State} (hx : ∀ n, step (x n) = .next (x (n + 1))) (r : Rota)
    (n : Nat) : ∃ m, n ≤ m ∧ takeTurn r.turn (nextTurn (x m)).2 = .next (x (m + 1)) := by
  induction hk : stepsBefore r (x n) using Nat.strong_induction_on generalizing n with
  | _ k ih =>
    obtain hturn | hlt := turn_or_stepsBefore_lt r (hx n)
    · exact ⟨n, le_rfl, hturn ▸ hx n⟩
    · obtain ⟨m, hm, hstep⟩ := ih _ (hk ▸ hlt) (n + 1) rfl
      exact ⟨m, Nat.le_of_succ_le hm, hstep⟩

/-- Settles O60: with an empty agenda the rota names the turn; of the turns other than a reset's only TIMER's and a
coincidence's run a TICK; and no step makes the agenda last longer, so the rota comes round. -/
theorem everyEndlessRunIsFair : Obligations.EveryEndlessRunIsFair := by
  unfold Obligations.EveryEndlessRunIsFair
  refine ⟨fun s ha => ⟨fun hr => ?_, fun hr => ?_, fun hr => ?_⟩, fun s t hinv hr hstep => ?_, fun x hx n =>
    ⟨exists_turn_of_run hx .timer n, exists_turn_of_run hx .nvdev n, exists_turn_of_run hx .seq n⟩⟩
  · rw [step_quiet ha, hr]; rfl
  · rw [step_quiet ha, hr]; rfl
  · rw [step_quiet ha, hr]; rfl
  · obtain ⟨ag, ro, e⟩ := nextTurn_snd s
    rw [step, advance, e] at hstep
    exact takeTurn_tick (s := { s with agenda := ag, rota := ro }) hinv.path (not_exists.1 hr) hstep

end Sys2Proof.Machine
end

section
/-! ### The Edge Capture Queue -/

namespace Sys2Proof.Machine

/-! #### The producer, branch by branch (41_edge_queue.md rule R115) -/

theorem after_edge_of_room {s : State} (hce : s.ce = true) (h : s.wrIdx.toNat < s.cfg.cap) :
    after .edge s = s.tsAppend := by
  rw [after_edge_eq, if_pos hce, if_pos h]

theorem after_edge_of_full {s : State} (hce : s.ce = true) (h : s.cfg.cap ≤ s.wrIdx.toNat) :
    after .edge s = dropFull s := by
  rw [after_edge_eq, if_pos hce, if_neg (Nat.not_lt.2 h)]

theorem after_edge_of_masked {s : State} (hce : s.ce = false) : after .edge s = dropMasked s := by
  rw [after_edge_eq, if_neg (ne_true_of_eq_false hce)]

/-- An append advances WR_IDX without a wrap, for CAP fits the index. -/
theorem tsAppend_wrIdx_toNat {s : State} (hc : s.cfg.wf = true) (h : s.wrIdx.toNat < s.cfg.cap) :
    s.tsAppend.wrIdx.toNat = s.wrIdx.toNat + 1 :=
  idx_succ_toNat h (Config.wf_bounds hc).2

/-- Settles O9: one branch of EDGE for each of the three cases. -/
theorem edgeAppendsOrDrops : Obligations.EdgeAppendsOrDrops := by
  unfold Obligations.EdgeAppendsOrDrops
  refine ⟨rfl, rfl, fun s hc => ⟨after .edge s, exec_eq .edge s, fun hce hroom => ?_, fun hce hfull => ?_,
    fun hce => ?_⟩⟩
  · rw [after_edge_of_room hce hroom]
    exact ⟨tsRead_tsAppend_same s, fun i hi => tsRead_tsAppend_other s hi, tsAppend_wrIdx_toNat hc hroom, rfl⟩
  · rw [after_edge_of_full hce hfull]
    exact ⟨satInc_toNat s.edgeFullDrops, setCondBit_edgeFull s.cond, rfl⟩
  · rw [after_edge_of_masked hce]
    exact ⟨satInc_toNat s.edgeMaskDrops, setCondBit_edgeMasked s.cond, rfl⟩

/-! #### The consumer (rules R117, R118) -/

theorem pending_of_lt {s : State} (h : s.rdIdx.toNat < s.wrIdx.toNat) : s.pending = true :=
  decide_eq_true h

theorem not_pending_of_le {s : State} (h : s.wrIdx.toNat ≤ s.rdIdx.toNat) : ¬ s.pending = true :=
  fun hp => Nat.not_lt.2 h (of_decide_eq_true hp)

/-- Settles O10: PEEK with a timestamp pending, and without one. -/
theorem peekReadsAtTheCursor : Obligations.PeekReadsAtTheCursor := by
  unfold Obligations.PeekReadsAtTheCursor
  refine ⟨rfl, fun s => ⟨after .peek s, exec_eq .peek s, fun h => ?_, fun h => ?_⟩⟩
  · rw [after_peek_eq, if_pos (pending_of_lt h)]
    exact ⟨rfl, rfl⟩
  · rw [after_peek_eq, if_neg (not_pending_of_le h)]
    rfl

/-- Settles O11: ADV below WR_IDX cannot wrap, and otherwise it is refused. -/
theorem advMovesTheCursor : Obligations.AdvMovesTheCursor := by
  unfold Obligations.AdvMovesTheCursor
  refine ⟨rfl, fun s => ⟨after .adv s, exec_eq .adv s, fun h => ?_, fun h => ?_⟩⟩
  · rw [after_adv_eq, if_pos (pending_of_lt h)]
    exact ⟨idx_succ_toNat h (Nat.le_of_lt_succ s.wrIdx.isLt), rfl⟩
  · rw [after_adv_eq, if_neg (not_pending_of_le h)]
    rfl

/-! #### The producer mask (rules R119, R120) -/

/-- Settles O12: UNMASK is refused in two of the five session states. -/
theorem maskAndUnmaskMoveCE : Obligations.MaskAndUnmaskMoveCE := by
  unfold Obligations.MaskAndUnmaskMoveCE
  refine ⟨rfl, rfl, fun s => ⟨⟨after .mask s, exec_eq .mask s, after_mask_eq s⟩, after .unmask s,
    exec_eq .unmask s, fun h => ?_, fun h => ?_⟩⟩
  · have hopen : ¬ (s.sess = .closing ∨ s.sess = .idle) := by
      obtain h | h | h := h <;> simp [h]
    rw [after_unmask_eq, if_neg hopen]
  · rw [after_unmask_eq, if_pos h]
    rfl

/-! #### Backpressure (rule R121) -/

/-- The state after one capture at the instant `v`. -/
def capture (s : State) (v : Word) : State := after .edge { s with tick := v }

/-- Captures never stop: `captureAll` runs them one by one. -/
theorem captureAll_eq (vs : List Word) (s : State) : captureAll vs s = .next (vs.foldl capture s) := by
  induction vs generalizing s with
  | nil => rfl
  | cons v vs ih =>
    rw [captureAll, exec_eq]
    exact ih (capture s v)

theorem capture_of_room {s : State} (v : Word) (hce : s.ce = true) (h : s.wrIdx.toNat < s.cfg.cap) :
    capture s v = { s with tick := v }.tsAppend :=
  after_edge_of_room (s := { s with tick := v }) hce h

theorem capture_of_full {s : State} (v : Word) (hce : s.ce = true) (h : s.cfg.cap ≤ s.wrIdx.toNat) :
    capture s v = dropFull { s with tick := v } :=
  after_edge_of_full (s := { s with tick := v }) hce h

/-- `t` is `s` but for TICK, TS, WR_IDX, EDGE_FULL_DROPS and COND, which are all that captures write. -/
def CaptureFrame (s t : State) : Prop :=
  t = { s with
    tick := t.tick, ts := t.ts, wrIdx := t.wrIdx, edgeFullDrops := t.edgeFullDrops, cond := t.cond }

theorem CaptureFrame.trans {s t u : State} (hst : CaptureFrame s t) (htu : CaptureFrame t u) :
    CaptureFrame s u :=
  Eq.trans htu (by rw [hst])

theorem CaptureFrame.cfg {s t : State} (h : CaptureFrame s t) : t.cfg = s.cfg := by rw [h]

theorem CaptureFrame.ce {s t : State} (h : CaptureFrame s t) : t.ce = s.ce := by rw [h]

/-- `t` is what captures at the instants `vs` make of `s`, a state with an empty buffer. -/
structure Captured (vs : List Word) (s t : State) : Prop where
  wrIdx_eq : t.wrIdx.toNat = min vs.length s.cfg.cap
  entries : ∀ i (h : i < vs.length), i < s.cfg.cap → t.tsRead i = vs[i]
  drops : t.edgeFullDrops.toNat = min (vs.length - s.cfg.cap) 65535
  frame : CaptureFrame s t

section
variable {vs : List Word} {s t : State}

/-- While there is room the next capture becomes the last entry. -/
theorem Captured.append (h : Captured vs s t) (hc : s.cfg.wf = true) (hce : s.ce = true)
    (hroom : vs.length < s.cfg.cap) (v : Word) : Captured (vs ++ [v]) s (capture t v) := by
  have hwr : t.wrIdx.toNat = vs.length := by rw [h.wrIdx_eq, min_eq_left hroom.le]
  have hlt : t.wrIdx.toNat < t.cfg.cap := by rwa [hwr, h.frame.cfg]
  rw [capture_of_room v (h.frame.ce.trans hce) hlt]
  refine ⟨?_, fun i hi hcap => ?_, ?_, h.frame.trans rfl⟩
  · have hsucc := tsAppend_wrIdx_toNat (s := { t with tick := v }) (h.frame.cfg ▸ hc) hlt
    rw [hsucc, List.length_append, List.length_singleton, min_eq_left hroom, ← hwr]
  · by_cases hlast : i = vs.length
    · subst hlast
      rw [List.getElem_concat_length rfl, ← hwr]
      exact tsRead_tsAppend_same { t with tick := v }
    · have hold : i < vs.length := by
        rw [List.length_append, List.length_singleton] at hi
        omega
      rw [List.getElem_append_left hold, ← h.entries i hold hcap]
      exact tsRead_tsAppend_other { t with tick := v } (hwr ▸ hlast)
  · rw [tsAppend_edgeFullDrops, h.drops, List.length_append, List.length_singleton]
    omega

/-- Once the buffer is full the next capture is only counted. -/
theorem Captured.drop (h : Captured vs s t) (hce : s.ce = true) (hfull : s.cfg.cap ≤ vs.length) (v : Word) :
    Captured (vs ++ [v]) s (capture t v) := by
  have hwr : t.wrIdx.toNat = s.cfg.cap := by rw [h.wrIdx_eq, min_eq_right hfull]
  rw [capture_of_full v (h.frame.ce.trans hce) (by rw [hwr, h.frame.cfg])]
  refine ⟨?_, fun i hi hcap => ?_, ?_, h.frame.trans rfl⟩
  · rw [dropFull_wrIdx, hwr, List.length_append, min_eq_right (Nat.le_add_right_of_le hfull)]
  · rw [List.getElem_append_left (hcap.trans_le hfull)]
    exact h.entries i (hcap.trans_le hfull) hcap
  · rw [dropFull_edgeFullDrops, satInc_toNat, h.drops, List.length_append, List.length_singleton]
    omega

end

/-- From an empty buffer, by induction on the captures, the latest one last. -/
theorem captured_foldl (vs : List Word) {s : State} (hc : s.cfg.wf = true) (hce : s.ce = true)
    (hwr : s.wrIdx = 0) (hd : s.edgeFullDrops = 0) : Captured vs s (vs.foldl capture s) := by
  induction vs using List.reverseRecOn with
  | nil => exact ⟨by simp [hwr], nofun, by simp [hd], rfl⟩
  | append_singleton vs v ih =>
    rw [List.foldl_concat]
    obtain hroom | hfull := Nat.lt_or_ge vs.length s.cfg.cap
    · exact ih.append hc hce hroom v
    · exact ih.drop hce hfull v

/-- Settles O13: each capture from an empty buffer is appended while there is room and counted from then on. -/
theorem backpressureKeepsTheFirstEntries : Obligations.BackpressureKeepsTheFirstEntries := by
  unfold Obligations.BackpressureKeepsTheFirstEntries
  intro vs s hc hce hwr hd
  obtain ⟨hidx, hentries, hdrops, hframe⟩ := captured_foldl vs hc hce hwr hd
  exact ⟨vs.foldl capture s, captureAll_eq vs s, hidx, hentries, hdrops, hframe⟩

end Sys2Proof.Machine
end

section
/-! ### Pulse duration and the Pulse Classifier -/

namespace Sys2Proof.Machine

/-! #### DELTA (42_classifier.md rules R130, R133) -/

/-- A difference of words is modular at TICK_W bits too, for 2^TICK_W divides 2^16 (rule R130). -/
theorem truncTick_sub_toNat {c : Config} (hw : c.tickW ≤ 16) (a b : Word) :
    ((truncTick c (a - b)).toNat : Int) = (a.toNat - b.toNat : Int) % 2 ^ c.tickW := by
  have hdvd : (2 : Int) ^ c.tickW ∣ 2 ^ 16 := pow_dvd_pow 2 hw
  have hword : ((a - b).toNat : Int) = (a.toNat - b.toNat : Int) % 2 ^ 16 := by
    rw [BitVec.toNat_sub]
    omega
  rw [truncTick_toNat c _ hw]
  push_cast
  rw [hword, Int.emod_emod_of_dvd _ hdvd]

theorem after_delta_res {s : State} (hc : s.cfg.wf = true) (o : Operand) :
    ((after (.delta o) s).res.toNat : Int) =
      ((tickArg o s).toNat - s.prevTs.toNat : Int) % 2 ^ s.cfg.tickW :=
  truncTick_sub_toNat (Config.wf_bounds hc).1 (tickArg o s) s.prevTs

/-- A number cut to TICK_W bits fits an immediate, which DELTA, CLASSIFY and RECORD then take whole (rule R87). -/
theorem tickArg_imm_mod_toNat {s : State} (hc : s.cfg.wf = true) (n : Nat) :
    (tickArg (.imm (BitVec.ofNat 16 (n % 2 ^ s.cfg.tickW))) s).toNat = n % 2 ^ s.cfg.tickW := by
  have hw : s.cfg.tickW ≤ 16 := (Config.wf_bounds hc).1
  rw [tickArg, truncTick_toNat _ _ hw, argOf, BitVec.toNat_ofNat, Nat.mod_mod_of_dvd _ (Nat.pow_dvd_pow 2 hw),
    Nat.mod_mod]

/-- DELTA of the timestamp `n` ticks after PREV_TS is `n`, modulo 2^TICK_W as the timestamp itself (rule R133). -/
theorem after_delta_res_of_ticks {s : State} (hc : s.cfg.wf = true) (n : Nat) :
    (after (.delta (.imm (BitVec.ofNat 16 ((s.prevTs.toNat + n) % 2 ^ s.cfg.tickW)))) s).res.toNat =
      n % 2 ^ s.cfg.tickW := by
  zify
  rw [after_delta_res hc, tickArg_imm_mod_toNat hc]
  push_cast
  rw [Int.emod_sub_emod, add_sub_cancel_left]

/-- Settles O14: the difference is that of the 16-bit words, cut to TICK_W bits. -/
theorem deltaSubtractsThePrevious : Obligations.DeltaSubtractsThePrevious := by
  unfold Obligations.DeltaSubtractsThePrevious
  exact ⟨fun _ => rfl, rfl, fun o s hc =>
    ⟨after (.delta o) s, exec_eq (.delta o) s, after_delta_res hc o, rfl, rfl, rfl⟩⟩

/-- Settles O15: both cases are n modulo 2^TICK_W. -/
theorem durationSurvivesOneWrap : Obligations.DurationSurvivesOneWrap := by
  unfold Obligations.DurationSurvivesOneWrap
  intro s n hc
  have hres := after_delta_res_of_ticks hc n
  exact ⟨_, exec_eq _ s, fun hn => hres.trans (Nat.mod_eq_of_lt hn), fun _ => hres⟩

/-! #### CLASSIFY (rules R131, R132) -/

theorem tShort_lt_tHl : tShort < tHl := by decide

theorem tHl_lt_tLong : tHl < tLong := by decide

section
variable {d : Word}

theorem classifyDuration_of_le_tShort (h : d.toNat ≤ tShort) : classifyDuration d = .short :=
  if_pos h

theorem classifyDuration_of_le_tHl (hgt : tShort < d.toNat) (hle : d.toNat ≤ tHl) :
    classifyDuration d = .low := by
  rw [classifyDuration, if_neg hgt.not_ge, if_pos hle]

theorem classifyDuration_of_le_tLong (hgt : tHl < d.toNat) (hle : d.toNat ≤ tLong) :
    classifyDuration d = .high := by
  have hshort : tShort < d.toNat := tShort_lt_tHl.trans hgt
  rw [classifyDuration, if_neg hshort.not_ge, if_neg hgt.not_ge, if_pos hle]

theorem classifyDuration_of_gt_tLong (hgt : tLong < d.toNat) : classifyDuration d = .long := by
  have hhl : tHl < d.toNat := tHl_lt_tLong.trans hgt
  have hshort : tShort < d.toNat := tShort_lt_tHl.trans hhl
  rw [classifyDuration, if_neg hshort.not_ge, if_neg hhl.not_ge, if_neg hgt.not_ge]

end

/-- The code of a duration is the number of thresholds it exceeds. -/
theorem symbolCode_classifyDuration (d : Word) :
    (symbolCode (classifyDuration d)).toNat = [tShort, tHl, tLong].countP (· < d.toNat) := by
  have hlow := tShort_lt_tHl
  have hhigh := tHl_lt_tLong
  obtain hs | hs := le_or_gt d.toNat tShort
  · have h : ¬ tShort < d.toNat ∧ ¬ tHl < d.toNat ∧ ¬ tLong < d.toNat := by omega
    simp [classifyDuration_of_le_tShort hs, symbolCode, h]
  obtain hl | hl := le_or_gt d.toNat tHl
  · have h : ¬ tHl < d.toNat ∧ ¬ tLong < d.toNat := by omega
    simp [classifyDuration_of_le_tHl hs hl, symbolCode, hs, h]
  obtain hg | hg := le_or_gt d.toNat tLong
  · simp [classifyDuration_of_le_tLong hl hg, symbolCode, hs, hl, hg.not_gt]
  · simp [classifyDuration_of_gt_tLong hg, symbolCode, hs, hl, hg]

theorem after_classify_res_toNat (o : Operand) (s : State) :
    (after (.classify o) s).res.toNat = [tShort, tHl, tLong].countP (· < (tickArg o s).toNat) := by
  rw [after_classify_eq, ← symbolCode_classifyDuration]
  exact BitVec.toNat_setWidth_of_le (by decide)

theorem after_classify_res_of_class {o : Operand} {s : State} {c : Symbol}
    (h : classifyDuration (tickArg o s) = c) : (after (.classify o) s).res = (symbolCode c).setWidth 16 := by
  rw [after_classify_eq, h]

/-- Settles O16: one class for each of the four ranges, and a class has one code. -/
theorem classifyComparesWithThresholds : Obligations.ClassifyComparesWithThresholds := by
  unfold Obligations.ClassifyComparesWithThresholds
  exact ⟨fun _ => rfl, rfl, fun o s => ⟨after (.classify o) s, exec_eq (.classify o) s,
    fun hle => after_classify_res_of_class (classifyDuration_of_le_tShort hle),
    fun hgt hle => after_classify_res_of_class (classifyDuration_of_le_tHl hgt hle),
    fun hgt hle => after_classify_res_of_class (classifyDuration_of_le_tLong hgt hle),
    fun hgt => after_classify_res_of_class (classifyDuration_of_gt_tLong hgt),
    rfl⟩⟩

/-- Settles O17: a longer duration exceeds every threshold that a shorter one exceeds. -/
theorem longerDurationsNeverRankLower : Obligations.LongerDurationsNeverRankLower := by
  unfold Obligations.LongerDurationsNeverRankLower
  intro o₁ o₂ s t₁ t₂ hlt h₁ h₂
  obtain rfl := (exec_next_iff (.classify o₁) s t₁).1 h₁
  obtain rfl := (exec_next_iff (.classify o₂) s t₂).1 h₂
  rw [after_classify_res_toNat, after_classify_res_toNat]
  refine List.countP_mono_left fun threshold _ hexceeds => ?_
  rw [decide_eq_true_eq] at hexceeds ⊢
  exact hexceeds.trans hlt

end Sys2Proof.Machine
end

section
/-! ### The Command Decoder -/

namespace Sys2Proof.Machine

/-! #### The completion of a bit (43_decoder.md rule R145) -/

theorem complete_of_lt {n : Nat} (acc : Word) (s : State) (h : n < wordW) :
    complete acc n s = { s with acc := acc, bitpos := BitVec.ofNat 4 n } := if_neg h.ne

theorem complete_wordW (acc : Word) (s : State) : complete acc wordW s = publish acc s := if_pos rfl

theorem symbolStep_low (s : State) : symbolStep .low s = complete s.acc (s.bitpos.toNat + 1) s := rfl

theorem symbolStep_high (s : State) :
    symbolStep .high s = complete (s.acc ||| (1#16 <<< s.bitpos.toNat)) (s.bitpos.toNat + 1) s := rfl

/-- A position in the word fits BITPOS. -/
theorem bitpos_ofNat_toNat {n : Nat} (h : n < wordW) : (BitVec.ofNat 4 n).toNat = n := Nat.mod_eq_of_lt h

/-- Only the bit of the accumulator at the position a HIGH has reached is set (rule R142). -/
theorem getLsbD_or_bit (acc : Word) (n : Nat) {k : Nat} (hk : k < 16) :
    (acc ||| (1#16 <<< n)).getLsbD k = (acc.getLsbD k || k == n) := by
  rw [BitVec.getLsbD_or, ← BitVec.twoPow_eq, BitVec.getLsbD_twoPow]
  congr 1
  rw [Bool.eq_iff_iff]
  simp only [Bool.and_eq_true, decide_eq_true_eq, beq_iff_eq]
  omega

/-- Settles O18: LOW and HIGH complete a bit, which publishes at position 15 only. -/
theorem decoderTransitions : Obligations.DecoderTransitions := by
  unfold Obligations.DecoderTransitions
  refine ⟨rfl, rfl, rfl, rfl, fun s => ⟨exec_eq .decShort s,
    ⟨after .decLow s, exec_eq .decLow s, fun h => ?_, fun h => ?_⟩,
    ⟨after .decHigh s, exec_eq .decHigh s, fun h => ?_, fun h => ?_⟩,
    after .decLong s, exec_eq .decLong s, rfl⟩⟩
  · rw [after_decLow_eq, symbolStep_low, complete_of_lt _ _ (Nat.succ_lt_succ h)]
    exact ⟨bitpos_ofNat_toNat (Nat.succ_lt_succ h), rfl⟩
  · rw [after_decLow_eq, symbolStep_low, h]
    exact ⟨satInc_toNat s.frames, rfl⟩
  · rw [after_decHigh_eq, symbolStep_high, complete_of_lt _ _ (Nat.succ_lt_succ h)]
    exact ⟨fun k hk => getLsbD_or_bit s.acc s.bitpos.toNat hk, bitpos_ofNat_toNat (Nat.succ_lt_succ h), rfl⟩
  · rw [after_decHigh_eq, symbolStep_high, h]
    exact ⟨rfl, satInc_toNat s.frames, rfl⟩

/-! #### DEC.R (rule R144) -/

theorem resSymbol_of_code {s : State} {x : Symbol} (h : s.res.toNat % 4 = (symbolCode x).toNat) :
    resSymbol s = x := by
  have hcode : s.res.extractLsb' 0 2 = symbolCode x := BitVec.eq_of_toNat_eq h
  rw [resSymbol, hcode, symbolOfCode_symbolCode]

theorem exec_decR_of_code {s : State} {x : Symbol} (h : s.res.toNat % 4 = (symbolCode x).toNat) :
    exec .decR s = .next (symbolStep x s) := by
  rw [exec_eq, after_decR_eq, resSymbol_of_code h]

/-- Settles O19: the symbol of RES[1:0] is the one whose code RES leaves modulo 4. -/
theorem decRFollowsTheSymbolInRes : Obligations.DecRFollowsTheSymbolInRes := by
  unfold Obligations.DecRFollowsTheSymbolInRes
  exact ⟨rfl, fun s => ⟨exec_decR_of_code (x := .short),
    fun h => ⟨_, exec_decR_of_code (x := .low) h, exec_eq .decLow s⟩,
    fun h => ⟨_, exec_decR_of_code (x := .high) h, exec_eq .decHigh s⟩,
    exec_decR_of_code (x := .long)⟩⟩

/-! #### A sequence of symbols (rule R146) -/

/-- The decoder's transitions on a sequence of symbols, the first one first. -/
def symbolSteps (xs : List Symbol) (s : State) : State := xs.foldl (fun t x => symbolStep x t) s

theorem exec_decOf (x : Symbol) (s : State) : exec (decOf x) s = .next (symbolStep x s) := by
  cases x <;> rfl

/-- DEC operations never stop: `runOps` runs them one by one. -/
theorem runOps_map_decOf (xs : List Symbol) (s : State) :
    runOps (xs.map decOf) s = .next (symbolSteps xs s) := by
  induction xs generalizing s with
  | nil => rfl
  | cons x xs ih =>
    rw [List.map_cons, runOps, exec_decOf]
    exact ih (symbolStep x s)

theorem symbolSteps_cons (x : Symbol) (xs : List Symbol) (s : State) :
    symbolSteps (x :: xs) s = symbolSteps xs (symbolStep x s) := rfl

theorem symbolSteps_concat (xs : List Symbol) (x : Symbol) (s : State) :
    symbolSteps (xs ++ [x]) s = symbolStep x (symbolSteps xs s) := List.foldl_concat ..

/-- What `symbolStep_frame` says of one symbol holds of any number of them. -/
theorem symbolSteps_frame (xs : List Symbol) (s : State) :
    symbolSteps xs s = { s with
      acc := (symbolSteps xs s).acc, bitpos := (symbolSteps xs s).bitpos, cmd := (symbolSteps xs s).cmd,
      frames := (symbolSteps xs s).frames } := by
  induction xs generalizing s with
  | nil => rfl
  | cons x xs ih =>
    rw [symbolSteps_cons]
    refine (ih (symbolStep x s)).trans ?_
    rw [symbolStep_frame x s]

/-! #### Counting the bits (rule R146 (b)) -/

/-- The bits of the frames published so far and of the one under way. -/
def bitsTaken (s : State) : Nat := s.bitpos.toNat + 16 * s.frames.toNat

/-- Completing a frame moves its sixteen bits from BITPOS to FRAMES. -/
theorem bitsTaken_complete {n : Nat} (acc : Word) {s : State} (hn : n ≤ wordW) (hf : s.frames.toNat < 65535) :
    bitsTaken (complete acc n s) = n + 16 * s.frames.toNat := by
  obtain hlt | rfl := hn.lt_or_eq
  · rw [complete_of_lt acc s hlt, bitsTaken, bitpos_ofNat_toNat hlt]
  · have hsat : (satInc s.frames).toNat = s.frames.toNat + 1 := by
      rw [satInc_toNat]
      omega
    calc bitsTaken (complete acc wordW s)
      _ = 0 + 16 * (satInc s.frames).toNat := rfl
      _ = 16 + 16 * s.frames.toNat := by omega

theorem bitsTaken_symbolStep {x : Symbol} {s : State} (hx : x ≠ .long) (hf : s.frames.toNat < 65535) :
    bitsTaken (symbolStep x s) = bitsTaken s + [x].countP symbolIsBit := by
  have hsucc (acc : Word) : bitsTaken (complete acc (s.bitpos.toNat + 1) s) = bitsTaken s + 1 := by
    rw [bitsTaken_complete acc s.bitpos.isLt hf, bitsTaken]
    omega
  cases x with
  | short => rfl
  | low => exact hsucc _
  | high => exact hsucc _
  | long => exact absurd rfl hx

/-- No bit is thrown away, for only LONG does that: each LOW and HIGH adds one. A symbol publishes at most one frame,
so FRAMES stays below its ceiling. -/
theorem bitsTaken_symbolSteps {xs : List Symbol} {s : State} (hx : ∀ x ∈ xs, x ≠ Symbol.long)
    (hf : s.frames.toNat + xs.length < 65535) :
    bitsTaken (symbolSteps xs s) = bitsTaken s + xs.countP symbolIsBit := by
  induction xs generalizing s with
  | nil => rfl
  | cons x xs ih =>
    rw [List.length_cons] at hf
    obtain ⟨hx, hxs⟩ := List.forall_mem_cons.1 hx
    have hstep := bitsTaken_symbolStep hx (by omega : s.frames.toNat < 65535)
    have hframes : (symbolStep x s).frames.toNat ≤ s.frames.toNat + 1 := by
      have hone : [x].countP symbolIsBit ≤ 1 := List.countP_le_length
      have hbp := s.bitpos.isLt
      simp only [bitsTaken] at hstep
      omega
    rw [symbolSteps_cons, ih hxs (by omega), hstep, Nat.add_assoc, ← List.countP_append]
    rfl

/-- Settles O20: the bits of the frames and of the one under way are counted symbol by symbol. -/
theorem onePublishPerSixteenBits : Obligations.OnePublishPerSixteenBits := by
  unfold Obligations.OnePublishPerSixteenBits
  intro xs s hx hf
  have hbits := bitsTaken_symbolSteps hx hf
  rw [List.countP_eq_length_filter] at hbits
  exact ⟨symbolSteps xs s, runOps_map_decOf xs s, hbits, symbolSteps_frame xs s⟩

/-! #### A whole word (rule R146 (d)) -/

/-- The symbol of bit `i` of a word. -/
def keySymbol (k : Word) (i : Nat) : Symbol := if k.getLsbD i then .high else .low

/-- The bits of a word below `n`. -/
def lowBits (k : Word) (n : Nat) : Word := (k.setWidth n).setWidth 16

theorem keySymbols_eq (k : Word) : keySymbols k = (List.range 15).map (keySymbol k) ++ [keySymbol k 15] := rfl

theorem lowBits_zero (k : Word) : lowBits k 0 = 0 := by
  rw [lowBits, BitVec.of_length_zero (x := k.setWidth 0)]
  rfl

theorem lowBits_wordW (k : Word) : lowBits k wordW = k := by
  rw [lowBits, wordW, BitVec.setWidth_eq, BitVec.setWidth_eq]

theorem getLsbD_lowBits (k : Word) (n : Nat) {i : Nat} (hi : i < 16) :
    (lowBits k n).getLsbD i = (decide (i < n) && k.getLsbD i) := by
  rw [lowBits, BitVec.getLsbD_setWidth, BitVec.getLsbD_setWidth, decide_eq_true hi, Bool.true_and]

/-- One more bit of the word, set as HIGH sets it. -/
theorem lowBits_succ (k : Word) (n : Nat) :
    lowBits k (n + 1) = if k.getLsbD n then lowBits k n ||| (1#16 <<< n) else lowBits k n := by
  apply BitVec.eq_of_getLsbD_eq
  intro i hi
  rw [apply_ite (BitVec.getLsbD · i), getLsbD_or_bit _ _ hi, getLsbD_lowBits k _ hi, getLsbD_lowBits k _ hi]
  obtain rfl | hne := eq_or_ne i n
  · cases k.getLsbD i <;> simp
  · have hlt : i < n + 1 ↔ i < n := by omega
    simp [hlt, hne]

/-- A symbol of the word completes one more of its bits. -/
theorem symbolStep_keySymbol {k : Word} {s : State} {n : Nat} (hn : n < wordW) (hacc : s.acc = lowBits k n)
    (hbp : s.bitpos = BitVec.ofNat 4 n) :
    symbolStep (keySymbol k n) s = complete (lowBits k (n + 1)) (n + 1) s := by
  have hpos : s.bitpos.toNat = n := by rw [hbp, bitpos_ofNat_toNat hn]
  rw [keySymbol, lowBits_succ k n]
  split_ifs
  · rw [symbolStep_high, hacc, hpos]
  · rw [symbolStep_low, hacc, hpos]

/-- After a LONG and the first `n` symbols of a word, ACC holds its first `n` bits. -/
theorem symbolSteps_keySymbol (k : Word) (s : State) {n : Nat} (hn : n < wordW) :
    symbolSteps ((List.range n).map (keySymbol k)) (symbolLong s) =
      { s with acc := lowBits k n, bitpos := BitVec.ofNat 4 n } := by
  induction n with
  | zero =>
    rw [lowBits_zero]
    rfl
  | succ n ih =>
    have hlt : n < wordW := Nat.lt_of_succ_lt hn
    rw [List.range_succ, List.map_append, List.map_singleton, symbolSteps_concat, ih hlt,
      symbolStep_keySymbol hlt rfl rfl, complete_of_lt _ _ hn]

/-- From any state a LONG and the symbols of a word publish the word. -/
theorem symbolSteps_long_keySymbols (k : Word) (s : State) :
    symbolSteps (.long :: keySymbols k) s = publish k s := by
  have hlast : lowBits k (15 + 1) = k := lowBits_wordW k
  rw [keySymbols_eq, symbolSteps_cons, symbolSteps_concat, symbolStep,
    symbolSteps_keySymbol k s (by decide), symbolStep_keySymbol (by decide) rfl rfl, hlast]
  rfl

/-- Settles O21: LONG clears the frame under way, fifteen symbols fill ACC, and the last publishes the word. -/
theorem longThenSixteenSymbolsPublishTheWord : Obligations.LongThenSixteenSymbolsPublishTheWord := by
  unfold Obligations.LongThenSixteenSymbolsPublishTheWord
  intro k s
  have hrun := runOps_map_decOf (.long :: keySymbols k) s
  rw [symbolSteps_long_keySymbols] at hrun
  exact ⟨publish k s, hrun, rfl, rfl, rfl, satInc_toNat s.frames, rfl⟩

/-! #### The label of a command (rule R147) -/

theorem label_eq (c : Config) (v : Word) : label c v =
    if v = c.keyFwd then c.lblFwd
    else if v = c.keyRew then c.lblRew
    else if v = c.keyPlay then lblPlay
    else if v = c.keyStop then c.lblStop
    else c.lblUnk := by
  simp only [label, knownLabel?, apply_ite (Option.getD · c.lblUnk), Option.getD_some, Option.getD_none]

/-- Settles O22: the keys are tried in that order, and the last case is LBL_UNK. -/
theorem labelTakesTheFirstMatchingKey : Obligations.LabelTakesTheFirstMatchingKey := by
  unfold Obligations.LabelTakesTheFirstMatchingKey
  intro c v
  rw [label_eq]
  refine ⟨fun hfwd => ?_, fun hfwd hrew => ?_, fun hfwd hrew hplay => ?_, fun hfwd hrew hplay hstop => ?_,
    fun hfwd hrew hplay hstop => ?_⟩
  · rw [if_pos hfwd]
  · rw [if_neg hfwd, if_pos hrew]
  · rw [if_neg hfwd, if_neg hrew, if_pos hplay, lblPlay]
  · rw [if_neg hfwd, if_neg hrew, if_neg hplay, if_pos hstop]
  · rw [if_neg hfwd, if_neg hrew, if_neg hplay, if_neg hstop]

end Sys2Proof.Machine
end

section
/-! ### The write-control protocol: its steps, and their order in AUTO mode -/

namespace Sys2Proof.Machine

/-! #### The five steps and the device's completion (44_recorder.md rules R155 to R160) -/

section
variable {s : State}

theorem after_nvWait_of_idle (h : s.nvBusy = false) : after .nvWait s = s := by
  rw [after_nvWait_eq, if_neg (ne_true_of_eq_false h)]

theorem after_nvWait_of_busy (h : s.nvBusy = true) : after .nvWait s = s.pushSeq [.op .nvWait] := by
  rw [after_nvWait_eq, if_pos h]

theorem after_nvMode_of_idle (h : s.nvBusy = false) : after .nvMode s = { s with nvMode := true } := by
  rw [after_nvMode_eq, if_neg (ne_true_of_eq_false h)]

theorem after_nvMode_of_busy (h : s.nvBusy = true) : after .nvMode s = s.raise .nvSeq := by
  rw [after_nvMode_eq, if_pos h]

theorem after_nvLoad_of_idle (h : s.nvBusy = false) (o : Operand) :
    after (.nvLoad o) s = { s with nvAddr := addrArg o s, nvData := byteArg o s } := by
  rw [after_nvLoad_eq, if_neg (ne_true_of_eq_false h)]

theorem after_nvLoad_of_busy (h : s.nvBusy = true) (o : Operand) : after (.nvLoad o) s = s.raise .nvSeq := by
  rw [after_nvLoad_eq, if_pos h]

theorem after_nvArm_of_idle (h : s.nvBusy = false) : after .nvArm s = { s with nvArm := true } := by
  rw [after_nvArm_eq, if_neg (ne_true_of_eq_false h)]

theorem after_nvArm_of_busy (h : s.nvBusy = true) : after .nvArm s = s.raise .nvSeq := by
  rw [after_nvArm_eq, if_pos h]

theorem after_nvCommit_of_ready (hb : s.nvBusy = false) (ha : s.nvArm = true) (hm : s.nvMode = true) :
    after .nvCommit s = { s with nvBusy := true, nvArm := false } := by
  rw [after_nvCommit_eq, if_pos (by simp [hb, ha, hm])]

theorem after_nvCommit_of_not_ready (h : s.nvBusy = true ∨ s.nvArm = false ∨ s.nvMode = false) :
    after .nvCommit s = { s.raise .nvSeq with nvArm := false } := by
  have hready : ¬ (!s.nvBusy && s.nvArm && s.nvMode) = true := by
    obtain h | h | h := h <;> simp [h]
  rw [after_nvCommit_eq, if_neg hready]

theorem after_nvdone_of_busy (h : s.nvBusy = true) :
    after .nvdone s = { s.nvProgram with nvBusy := false } := by
  rw [after_nvdone_eq, if_pos h]

theorem after_nvdone_of_idle (h : s.nvBusy = false) : after .nvdone s = s := by
  rw [after_nvdone_eq, if_neg (ne_true_of_eq_false h)]

theorem after_nvdone_nvBusy (s : State) : (after .nvdone s).nvBusy = false := by
  cases h : s.nvBusy
  · rw [after_nvdone_of_idle h, h]
  · rw [after_nvdone_of_busy h]

end

theorem after_nvMode_of_ne {i : Instr} (s : State) (h : i ≠ .nvMode) : (after i s).nvMode = s.nvMode := by
  cases i <;> simp [apply_ite State.nvMode] at h ⊢

/-- No operation selects another mode than byte programming (rule R156). -/
theorem after_nvMode_mono (i : Instr) {s : State} (h : s.nvMode = true) : (after i s).nvMode = true := by
  by_cases hi : i = .nvMode
  · subst hi
    cases hb : s.nvBusy
    · rw [after_nvMode_of_idle hb]
    · rwa [after_nvMode_of_busy hb]
  · rwa [after_nvMode_of_ne s hi]

/-- An operation other than NV.COMMIT leaves an armed device armed (rules R158, R159). -/
theorem after_nvArm_mono {i : Instr} (hi : i ≠ .nvCommit) {s : State} (h : s.nvArm = true) :
    (after i s).nvArm = true := by
  by_cases ha : i = .nvArm
  · subst ha
    cases hb : s.nvBusy
    · rw [after_nvArm_of_idle hb]
    · rwa [after_nvArm_of_busy hb]
  · rwa [after_nvArm_of_ne s ha hi]

/-- Settles O23: the hold is a step that puts itself back, and NVDONE leaves the device idle. -/
theorem waitHoldsWhileBusy : Obligations.WaitHoldsWhileBusy := by
  unfold Obligations.WaitHoldsWhileBusy
  refine ⟨rfl, fun s => ⟨fun h => ?_, fun h => ?_, after .nvdone s, exec_eq .nvdone s, ?_⟩⟩
  · rw [exec_eq, after_nvWait_of_idle h]
  · rw [exec_eq, after_nvWait_of_busy h]
    rfl
  · rw [exec_eq, after_nvWait_of_idle (after_nvdone_nvBusy s)]

/-- The word of an NV.LOAD has the address in bits 15:8 and the data in bits 7:0 (30_encoding.md rules R85, R87). -/
theorem encode_nvLoad_append (a b : Byte) : encode (.nvLoad (.imm (a ++ b))) =
    0x005A0000#32 ||| (a.setWidth 32 <<< 8) ||| b.setWidth 32 := by
  have happend : (a ++ b).setWidth 32 = a.setWidth 32 <<< 8 ||| b.setWidth 32 := by
    apply BitVec.eq_of_getLsbD_eq
    intro i hi
    have hbit : (a ++ b).getLsbD i = if i < 8 then b.getLsbD i else a.getLsbD (i - 8) := BitVec.getLsbD_append
    by_cases hlow : i < 8
    · simp [hbit, hi, hlow]
    · simp [hbit, hi, hlow, BitVec.getLsbD_of_ge b i (Nat.not_lt.1 hlow)]
  calc encode (.nvLoad (.imm (a ++ b)))
    _ = 0x005A0000#32 ||| (a ++ b).setWidth 32 := rfl
    _ = 0x005A0000#32 ||| (a.setWidth 32 <<< 8) ||| b.setWidth 32 := by rw [happend, BitVec.or_assoc]

/-- Settles O24: an idle device takes each of the three, a busy one answers with NV_SEQ. -/
theorem protocolStepsActOnlyWhenIdle : Obligations.ProtocolStepsActOnlyWhenIdle := by
  unfold Obligations.ProtocolStepsActOnlyWhenIdle
  refine ⟨rfl, encode_nvLoad_append, rfl, fun s => ⟨fun h => ⟨?_, ?_, fun o => ?_⟩, fun h =>
    ⟨s.raise .nvSeq, rfl, ?_, ?_, fun o => ?_⟩, fun i t hexec => ?_⟩⟩
  · rw [exec_eq, after_nvMode_of_idle h]
  · rw [exec_eq, after_nvArm_of_idle h]
  · refine ⟨_, exec_eq (.nvLoad o) s, ?_⟩
    rw [after_nvLoad_of_idle h]
    exact ⟨addrArg_toNat o s, byteArg_toNat o s, rfl⟩
  · rw [exec_eq, after_nvMode_of_busy h]
  · rw [exec_eq, after_nvArm_of_busy h]
  · rw [exec_eq, after_nvLoad_of_busy h]
  · obtain rfl := (exec_next_iff i s t).1 hexec
    exact ⟨after_nvMode_mono i, fun hi => after_nvArm_mono hi⟩

/-- Settles O25: a commit that lacks one of the three preconditions only disarms and raises NV_SEQ. -/
theorem commitNeedsArmAndMode : Obligations.CommitNeedsArmAndMode := by
  unfold Obligations.CommitNeedsArmAndMode
  refine ⟨rfl, fun s => ⟨fun ⟨hb, ha, hm⟩ => ?_, fun h => ?_⟩⟩
  · rw [exec_eq, after_nvCommit_of_ready hb ha hm]
  · rw [exec_eq, after_nvCommit_of_not_ready h]
    rfl

/-- Settles O26: the byte programmed is the only one whose read changes. -/
theorem nvdoneProgramsOneByte : Obligations.NvdoneProgramsOneByte := by
  unfold Obligations.NvdoneProgramsOneByte
  refine ⟨rfl, rfl, fun s => ⟨fun h => ⟨_, exec_eq .nvdone s, ?_⟩, fun h => ?_⟩⟩
  · rw [after_nvdone_of_busy h]
    exact ⟨nvRead_nvProgram_same s, fun a ha => nvRead_nvProgram_other s ha, rfl⟩
  · rw [exec_eq, after_nvdone_of_idle h]

/-! #### The order (a) to (e) (44_recorder.md section 1, rules R161, R169) -/

section
variable {busy mode arm : Bool} {ms : List Micro}

/-- A list without a protocol step is in order whatever the device does. -/
theorem protocolInOrder_of_noProtocol (busy mode arm : Bool) (h : noProtocol ms = true) :
    protocolInOrder busy mode arm ms = true := by
  unfold protocolInOrder
  split
  case h_6 => exact h
  all_goals simp [noProtocol, isProtocol] at h

/-- What is in order for a busy device is in order once its write has completed. -/
theorem protocolInOrder_idle (h : protocolInOrder busy mode arm ms = true) :
    protocolInOrder false mode arm ms = true := by
  unfold protocolInOrder at h ⊢
  split <;> simp_all

/-! The head of a list in order: the device meets its precondition, and what follows it is in order for the device as
the head leaves it. -/

theorem inOrder_nvWait (h : protocolInOrder busy mode arm (.op .nvWait :: ms) = true) :
    protocolInOrder false mode arm ms = true := by
  unfold protocolInOrder at h
  split at h <;> simp_all [protocolInOrder, noProtocol, isProtocol]

theorem inOrder_nvMode (h : protocolInOrder busy mode arm (.op .nvMode :: ms) = true) :
    busy = false ∧ protocolInOrder busy true arm ms = true := by
  unfold protocolInOrder at h
  split at h <;> simp_all [protocolInOrder, noProtocol, isProtocol]

theorem inOrder_nvLoad {o : Operand} (h : protocolInOrder busy mode arm (.op (.nvLoad o) :: ms) = true) :
    busy = false ∧ protocolInOrder busy mode arm ms = true := by
  unfold protocolInOrder at h
  split at h <;> simp_all [protocolInOrder, noProtocol, isProtocol]

theorem inOrder_nvArm (h : protocolInOrder busy mode arm (.op .nvArm :: ms) = true) :
    busy = false ∧ protocolInOrder busy mode true ms = true := by
  unfold protocolInOrder at h
  split at h <;> simp_all [protocolInOrder, noProtocol, isProtocol]

theorem inOrder_nvCommit (h : protocolInOrder busy mode arm (.op .nvCommit :: ms) = true) :
    busy = false ∧ arm = true ∧ mode = true ∧ noProtocol ms = true := by
  unfold protocolInOrder at h
  split at h <;> simp_all [noProtocol, isProtocol]

/-- Behind a head that is no protocol step there is none at all. -/
theorem inOrder_other {m : Micro} (h : protocolInOrder busy mode arm (m :: ms) = true)
    (hm : noProtocol [m] = true) : noProtocol ms = true := by
  unfold protocolInOrder at h
  split at h <;> simp_all [noProtocol, isProtocol]

end

theorem noProtocol_append (ms ns : List Micro) :
    noProtocol (ms ++ ns) = (noProtocol ms && noProtocol ns) := List.all_append

theorem noProtocol_writeString (bytes : List Byte) : noProtocol (writeString bytes) = true := by
  simp [noProtocol, writeString, isProtocol]

/-- Of the operations that are no protocol step only WBYTE expands to protocol steps, and these are a whole byte
write. -/
theorem protocolInOrder_expansion {i : Instr} (s : State) {ms : List Micro} (busy mode arm : Bool)
    (hi : isProtocol i = false) (h : noProtocol ms = true) :
    protocolInOrder busy mode arm (expansion i s ++ ms) = true := by
  have hplain {ps : List Micro} (hps : noProtocol ps = true) : protocolInOrder busy mode arm (ps ++ ms) = true :=
    protocolInOrder_of_noProtocol busy mode arm (by rw [noProtocol_append, hps, h]; rfl)
  cases i with
  | wbyte =>
    rw [expansion]
    split_ifs
    · exact h
    · exact hplain rfl
  | record | whdr | wtrl | wlbl => exact hplain (noProtocol_writeString _)
  | sInit | sPoll | sClose => rw [expansion]; split_ifs <;> exact hplain rfl
  | nvWait => cases hi
  | _ => exact hplain rfl

/-! #### Every step of AUTO mode keeps the order -/

/-- Only NV.MODE, NV.LOAD, NV.ARM and NV.COMMIT raise NV_SEQ (60_exceptions.md rule R211). -/
theorem after_hasCond_nvSeq {i : Instr} (s : State) (hi : isProtocol i = false) :
    (after i s).hasCond .nvSeq = s.hasCond .nvSeq := by
  by_cases he : i = .edge
  · subst he
    rw [after_edge_eq]
    split_ifs
    · rfl
    · exact (hasCond_raise s .edgeFull .nvSeq).trans (Bool.or_false _)
    · exact (hasCond_raise s .edgeMasked .nvSeq).trans (Bool.or_false _)
  obtain hc | hc := after_cond_of_ne s he <;> rw [State.hasCond, hc]
  · rfl
  · have hown : condCode .nvSeq ≠ condCode (ownCond i) := by
      cases i <;> simp [isProtocol, ownCond, condCode] at hi ⊢
    rw [getLsbD_setCondBit, decide_eq_false hown, Bool.or_false, State.hasCond]

/-- An operation that is no protocol step, in front of a list without one. -/
theorem AutoInv.after_other {s : State} {i : Instr} (hi : isProtocol i = false) (hm : s.stepMode = false)
    (hc : s.hasCond .nvSeq = false) (hu : noProtocol s.ustep = true) : AutoInv (after i s) where
  auto := by rw [after_stepMode, hm]
  order := by rw [after_ustep]; exact protocolInOrder_expansion s _ _ _ hi hu
  clean := by rw [after_hasCond_nvSeq s hi, hc]

/-- TIMER and PIN leave the device alone, and NVDEV only completes its write. -/
theorem AutoInv.event {s : State} {i : Instr} (hi : i = .tick ∨ i = .edge ∨ i = .nvdone) (h : AutoInv s) :
    AutoInv (after i s) := by
  have hframe : isProtocol i = false ∧ expansion i s = [] ∧
      (after i s).nvMode = s.nvMode ∧ (after i s).nvArm = s.nvArm := by
    obtain rfl | rfl | rfl := hi <;>
      exact ⟨rfl, rfl, after_nvMode_of_ne s nofun, after_nvArm_of_ne s nofun nofun⟩
  obtain ⟨hp, he, hmode, harm⟩ := hframe
  refine ⟨by rw [after_stepMode, h.auto], ?_, by rw [after_hasCond_nvSeq s hp, h.clean]⟩
  rw [after_ustep, he, hmode, harm]
  by_cases hd : i = .nvdone
  · rw [hd, after_nvdone_nvBusy]
    exact protocolInOrder_idle h.order
  · rw [after_nvBusy_of_ne s (by rintro rfl; cases hp) hd]
    exact h.order

/-- A protocol step at the head of a list in order finds the device ready for it. -/
theorem AutoInv.after_protocol {s : State} {i : Instr} (hi : isProtocol i = true) (hm : s.stepMode = false)
    (hc : s.hasCond .nvSeq = false)
    (ho : protocolInOrder s.nvBusy s.nvMode s.nvArm (.op i :: s.ustep) = true) : AutoInv (after i s) := by
  cases i with
  | nvWait =>
    cases hb : s.nvBusy
    · rw [after_nvWait_of_idle hb]
      exact ⟨hm, hb ▸ inOrder_nvWait ho, hc⟩
    · rw [after_nvWait_of_busy hb]
      exact ⟨hm, ho, hc⟩
  | nvMode =>
    obtain ⟨hb, ho⟩ := inOrder_nvMode ho
    rw [after_nvMode_of_idle hb]
    exact ⟨hm, ho, hc⟩
  | nvLoad o =>
    obtain ⟨hb, ho⟩ := inOrder_nvLoad ho
    rw [after_nvLoad_of_idle hb]
    exact ⟨hm, ho, hc⟩
  | nvArm =>
    obtain ⟨hb, ho⟩ := inOrder_nvArm ho
    rw [after_nvArm_of_idle hb]
    exact ⟨hm, ho, hc⟩
  | nvCommit =>
    obtain ⟨hb, ha, hmode, hu⟩ := inOrder_nvCommit ho
    rw [after_nvCommit_of_ready hb ha hmode]
    exact ⟨hm, protocolInOrder_of_noProtocol _ _ _ hu, hc⟩
  | _ => cases hi

/-- The micro-step at the head of USTEP. -/
theorem AutoInv.micro {s : State} {m : Micro} (h : AutoInv { s with ustep := m :: s.ustep }) :
    AutoInv (afterMicro m s) := by
  by_cases hp : ∃ i, m = .op i ∧ isProtocol i = true
  · obtain ⟨i, rfl, hi⟩ := hp
    exact .after_protocol hi h.auto h.clean h.order
  have hplain : noProtocol [m] = true := by
    cases m <;> simp [noProtocol] at hp ⊢
    exact hp
  have hu : noProtocol s.ustep = true := inOrder_other h.order hplain
  have ho : protocolInOrder s.nvBusy s.nvMode s.nvArm s.ustep = true := protocolInOrder_of_noProtocol _ _ _ hu
  cases m with
  | op i => exact .after_other (by simpa [noProtocol] using hplain) h.auto h.clean hu
  | bumpCursor | savePv | setSess => exact ⟨h.auto, ho, h.clean⟩
  | ifPv =>
    simp only [afterMicro, ifPvStep]
    split_ifs
    · exact ⟨h.auto, protocolInOrder_of_noProtocol _ _ _ hu, h.clean⟩
    · exact ⟨h.auto, ho, h.clean⟩
  | ifPending =>
    simp only [afterMicro, ifPendingStep]
    split_ifs
    · exact ⟨h.auto, protocolInOrder_of_noProtocol _ _ _ hu, h.clean⟩
    · exact ⟨h.auto, ho, h.clean⟩

/-- AUTO mode issues no protocol step by itself. -/
theorem isProtocol_of_autoOp {x : Sess} {i : Instr} (h : autoOp x = some i) : isProtocol i = false := by
  cases x <;> cases h <;> rfl

/-- Settles O51: a protocol step finds the device as its predecessors left it, a WBYTE starts a new byte write where
none is under way, and the device by itself only becomes idle. -/
theorem autoModeNeverBreaksTheProtocol : Obligations.AutoModeNeverBreaksTheProtocol := by
  unfold Obligations.AutoModeNeverBreaksTheProtocol
  intro s t h hr hstep
  cases step_kind (not_exists.1 hr) hstep with
  | event i ag ro fc hi => exact AutoInv.event hi { h with }
  | micro m ms ag ro hm => exact AutoInv.micro { h with order := hm ▸ h.order }
  | auto i ag ro hu hm hi => exact .after_other (isProtocol_of_autoOp hi) hm h.clean (by simp [hu, noProtocol])
  | port i ag ro hu hm => cases h.auto.symm.trans hm
  | pass | read => exact { h with }
  | refuse => exact { h with clean := (hasCond_raise s .badOp .nvSeq).trans ((Bool.or_false _).trans h.clean) }

end Sys2Proof.Machine
end

section
/-! ### The byte writer, the cursor and the record writers -/

namespace Sys2Proof.Machine

/-! #### WBYTE and SEEK (44_recorder.md rules R161, R162) -/

/-- Below the ceiling the cursor's low byte is the whole address. -/
theorem cursorByte_toNat {c : Cursor} (h : c.toNat < ceiling) : (c.extractLsb' 0 8).toNat = c.toNat := by
  rw [BitVec.extractLsb'_toNat, Nat.shiftRight_zero]
  exact Nat.mod_eq_of_lt h

section
variable {s : State} (o : Operand)

theorem after_wbyte_of_room (h : s.nvCursor.toNat < ceiling) :
    after (.wbyte o) s = s.pushSeq (byteWrite (s.nvCursor.extractLsb' 0 8) (byteArg o s)) := by
  rw [after_wbyte_eq, if_pos h]

theorem after_wbyte_of_full (h : ceiling ≤ s.nvCursor.toNat) : after (.wbyte o) s = dropCeil s := by
  rw [after_wbyte_eq, if_neg h.not_gt]

end

/-- Settles O27: the ceiling test decides between the whole byte write and the drop. -/
theorem wbyteTestsTheCeilingFirst : Obligations.WbyteTestsTheCeilingFirst := by
  unfold Obligations.WbyteTestsTheCeilingFirst
  refine ⟨fun _ => rfl, rfl, fun o s => ⟨after (.wbyte o) s, exec_eq _ s, fun h => ?_, fun h => ?_⟩⟩
  · rw [after_wbyte_of_room o h]
    refine ⟨_, ?_, rfl⟩
    rw [append_toNat, cursorByte_toNat h, byteArg_toNat]
    rfl
  · rw [after_wbyte_of_full o h]
    exact ⟨satInc_toNat s.nvCeilDrops, setCondBit_nvCeil s.cond, rfl⟩

/-- Settles O28: the cursor takes the low nine bits of `arg`. -/
theorem seekLoadsTheCursor : Obligations.SeekLoadsTheCursor := by
  unfold Obligations.SeekLoadsTheCursor
  exact ⟨fun _ => rfl, rfl, fun o s => ⟨after (.seek o) s, exec_eq _ s, cursorArg_toNat o s, rfl⟩⟩

/-! #### FMT and the record writers (rules R164 to R168) -/

theorem digit_toNat {n : Nat} (h : n ≤ 9) : (digit n).toNat = 0x30 + n :=
  Nat.mod_eq_of_lt (by rw [asciiZero]; omega)

/-- Settles O29: the three digits of the saturated duration. -/
theorem formatIsThreeDigitsAndNewline : Obligations.FormatIsThreeDigitsAndNewline := by
  unfold Obligations.FormatIsThreeDigitsAndNewline
  intro d
  have hfmt : fmt d = [digit (min d.toNat 999 / 100), digit (min d.toNat 999 / 10 % 10),
      digit (min d.toNat 999 % 10), newline] := rfl
  have hle : min d.toNat 999 ≤ 999 := min_le_right ..
  generalize min d.toNat 999 = n at hfmt hle
  have hh : n / 100 ≤ 9 := by omega
  have ht : n / 10 % 10 ≤ 9 := by omega
  have hu : n % 10 ≤ 9 := by omega
  refine ⟨n / 100, n / 10 % 10, n % 10, hh, ht, hu, by omega, ?_⟩
  rw [hfmt]
  simp only [List.map_cons, List.map_nil, digit_toNat hh, digit_toNat ht, digit_toNat hu]
  rfl

theorem noteSaturation_cond (d : Word) (s : State) :
    (noteSaturation d s).cond = if 999 < d.toNat then s.cond ||| 0x20#8 else s.cond :=
  apply_ite State.cond ..

theorem knownLabel?_isNone_iff (c : Config) (v : Word) : (knownLabel? c v).isNone = true ↔
    ¬ (v = c.keyFwd ∨ v = c.keyRew ∨ v = c.keyPlay ∨ v = c.keyStop) := by
  unfold knownLabel?
  split_ifs <;> simp [*]

theorem noteUnknown_cond (s : State) : (noteUnknown s).cond =
    if s.cmd = s.cfg.keyFwd ∨ s.cmd = s.cfg.keyRew ∨ s.cmd = s.cfg.keyPlay ∨ s.cmd = s.cfg.keyStop then s.cond
    else s.cond ||| 0x08#8 := by
  rw [noteUnknown, apply_ite State.cond, ite_congr (propext (knownLabel?_isNone_iff s.cfg s.cmd))
    (fun _ => rfl) (fun _ => rfl), ite_not]
  rfl

/-- Settles O30: each record writer queues its bytes; RECORD and WLBL note their condition first. -/
theorem recordWritersQueueTheirBytes : Obligations.RecordWritersQueueTheirBytes := by
  unfold Obligations.RecordWritersQueueTheirBytes
  refine ⟨fun _ => rfl, rfl, rfl, rfl, rfl, fun s => ⟨fun o => ⟨_, exec_eq (.record o) s, ?_⟩,
    ⟨_, exec_eq .whdr s, rfl⟩, ⟨_, exec_eq .wtrl s, rfl⟩, _, exec_eq .wlbl s, ?_⟩⟩
  · refine ⟨after_ustep (.record o) s, noteSaturation_cond (tickArg o s) s, ?_⟩
    rw [after_record_eq, noteSaturation_frame]
    rfl
  · refine ⟨after_ustep .wlbl s, noteUnknown_cond s, ?_⟩
    rw [after_wlbl_eq, noteUnknown_frame]
    rfl

end Sys2Proof.Machine
end

section
/-! ### Runs in a quiet environment, and the writing of a byte string -/

namespace Sys2Proof

/-- An operation of SEQ's list that has to do neither with TICK nor with the device, or a micro-step that is no
operation. -/
def Micro.timeless : Micro → Bool
  | .op i => (Micro.op i).wf && !Machine.isProtocol i && decide (i ≠ .now)
  | _ => true

namespace Machine

/-! #### What the passing of time does to a micro-step -/

/-- `s` with TICK, the rota, the storage and the write in flight as in `u`. -/
def State.outside (s u : State) : State :=
  { s with tick := u.tick, rota := u.rota, nv := u.nv, nvBusy := u.nvBusy, nvAddr := u.nvAddr,
           nvData := u.nvData }

section
variable (s u : State)

theorem argOf_outside (o : Operand) : argOf o (s.outside u) = argOf o s := by cases o <;> rfl

theorem ite_outside (p : Prop) [Decidable p] (a b : State) :
    (if p then a else b).outside u = if p then a.outside u else b.outside u := apply_ite (State.outside · u) p a b

theorem complete_outside (acc : Word) (n : Nat) :
    complete acc n (s.outside u) = (complete acc n s).outside u := by
  rw [complete, complete, ite_outside]
  rfl

theorem symbolStep_outside (x : Symbol) : symbolStep x (s.outside u) = (symbolStep x s).outside u := by
  cases x with
  | low | high => exact complete_outside ..
  | short | long => rfl

theorem noteSaturation_outside (d : Word) :
    noteSaturation d (s.outside u) = (noteSaturation d s).outside u := by
  rw [noteSaturation, noteSaturation, ite_outside]
  rfl

theorem noteUnknown_outside : noteUnknown (s.outside u) = (noteUnknown s).outside u := by
  rw [noteUnknown, noteUnknown, ite_outside]
  rfl

/-- A timeless micro-step neither reads nor writes what `outside` replaces. -/
theorem afterMicro_outside {m : Micro} (hm : m.timeless = true) :
    afterMicro m (s.outside u) = (afterMicro m s).outside u := by
  cases m with
  | bumpCursor | savePv | setSess => rfl
  | ifPv | ifPending =>
    simp only [afterMicro, ifPvStep, ifPendingStep, ite_outside]
    rfl
  | op i =>
    rw [afterMicro, afterMicro]
    cases i with
    | hasp | mask | whdr | wtrl => rfl
    | peek | adv | unmask =>
      simp only [after_peek_eq, after_adv_eq, after_unmask_eq, ite_outside]
      rfl
    | delta o | classify o | seek o => cases o <;> rfl
    | decShort | decLow | decHigh | decLong =>
      simp only [after_decShort_eq, after_decLow_eq, after_decHigh_eq, after_decLong_eq, symbolStep_outside]
    | decR => exact symbolStep_outside s u (resSymbol s)
    | wbyte o =>
      rw [after_wbyte_eq, after_wbyte_eq, ite_outside, byteArg, argOf_outside]
      rfl
    | record o =>
      rw [after_record_eq, noteSaturation_outside, tickArg, argOf_outside]
      rfl
    | wlbl =>
      rw [after_wlbl_eq, noteUnknown_outside]
      rfl
    | _ => cases hm

end

/-- `s` at another count of TICK, with `r` to move next. -/
def State.atTime (s : State) (k : Word) (r : Rota) : State := { s with tick := k, rota := r }

/-- `s` with `ms` left for SEQ to do. -/
def State.withSeq (s : State) (ms : List Micro) : State := { s with ustep := ms }

theorem after_protocol_atTime {i : Instr} (hi : isProtocol i = true) (s : State) (k : Word) (r : Rota) :
    after i (s.atTime k r) = (after i s).atTime k r := by
  cases i with
  | nvWait | nvMode | nvArm | nvCommit =>
    simp only [after_nvWait_eq, after_nvMode_eq, after_nvArm_eq, after_nvCommit_eq,
      apply_ite (State.atTime · k r)]
    rfl
  | nvLoad o =>
    rw [after_nvLoad_eq, after_nvLoad_eq, apply_ite (State.atTime · k r)]
    cases o <;> rfl
  | _ => cases hi

theorem after_protocol_withSeq {i : Instr} (hi : isProtocol i = true) (hw : i ≠ .nvWait) (s : State)
    (ms : List Micro) : after i (s.withSeq ms) = (after i s).withSeq ms := by
  cases i with
  | nvMode | nvArm | nvCommit =>
    simp only [after_nvMode_eq, after_nvArm_eq, after_nvCommit_eq, apply_ite (State.withSeq · ms)]
    rfl
  | nvLoad o =>
    rw [after_nvLoad_eq, after_nvLoad_eq, apply_ite (State.withSeq · ms)]
    cases o <;> rfl
  | nvWait => exact absurd rfl hw
  | _ => cases hi

/-- `s` with the write in flight, if any, completed. -/
def State.settle (s : State) : State :=
  { s with nv := if s.nvBusy then Memory.write s.nv s.nvAddr.toNat s.nvData else s.nv, nvBusy := false }

theorem after_nvdone_eq_settle (s : State) : after .nvdone s = s.settle := by
  rw [after_nvdone_eq, State.settle]
  split_ifs with h
  · rfl
  · rw [← Bool.eq_false_of_not_eq_true h]

theorem settle_of_idle {s : State} (h : s.nvBusy = false) : s.settle = s := by
  rw [← after_nvdone_eq_settle, after_nvdone_of_idle h]

theorem settle_settle (s : State) : s.settle.settle = s.settle := rfl

theorem nvRead_settle (s : State) (a : Nat) : s.settle.nvRead a = s.settledNv a := by
  rw [← after_nvdone_eq_settle, State.settledNv]
  cases hb : s.nvBusy
  · rw [after_nvdone_of_idle hb]
    rfl
  · rw [after_nvdone_of_busy hb, Bool.true_and]
    split_ifs with ha
    · rw [of_decide_eq_true ha]
      exact nvRead_nvProgram_same s
    · exact nvRead_nvProgram_other s (by simpa using ha)

theorem settledNv_settle (s : State) (a : Nat) : s.settle.settledNv a = s.settledNv a := by
  rw [← nvRead_settle, settle_settle, nvRead_settle]

/-- `t` is `s` but for TICK and the rota, and for the write in flight, if any, which may have completed. -/
inductive Later (s : State) : State → Prop where
  | same (k : Word) (r : Rota) : Later s (s.atTime k r)
  | settled (k : Word) (r : Rota) : Later s (s.settle.atTime k r)

theorem Later.refl (s : State) : Later s s := .same s.tick s.rota

theorem Later.trans {s t u : State} (hst : Later s t) (htu : Later t u) : Later s u := by
  cases hst <;> cases htu
  case same.same => exact .same _ _
  all_goals exact .settled _ _

section
variable {s t : State} (h : Later s t)
include h

theorem Later.agenda_eq : t.agenda = s.agenda := by cases h <;> rfl

theorem Later.ustep_eq : t.ustep = s.ustep := by cases h <;> rfl

theorem Later.settledNv_eq (a : Nat) : t.settledNv a = s.settledNv a := by
  cases h with
  | same => rfl
  | settled => exact settledNv_settle s a

theorem Later.withSeq (ms : List Micro) : Later (s.withSeq ms) (t.withSeq ms) := by
  cases h with
  | same k r => exact .same k r
  | settled k r => exact .settled k r

/-- A timeless micro-step may be taken at any time. -/
theorem Later.afterMicro_timeless {m : Micro} (hm : m.timeless = true) :
    Later (afterMicro m s) (afterMicro m t) := by
  have hs : afterMicro m s = (afterMicro m s).outside s := afterMicro_outside s s hm
  have ht : afterMicro m t = (afterMicro m s).outside t := by
    rw [← afterMicro_outside s t hm]
    cases h <;> rfl
  rw [ht, hs]
  cases h with
  | same k r => exact .same k r
  | settled k r => exact .settled k r

/-- A protocol step may be taken at any time while the device is idle. -/
theorem Later.after_protocol {i : Instr} (hi : isProtocol i = true) (hb : s.nvBusy = false) :
    Later (after i s) (after i t) := by
  have htime : ∃ k r, t = s.atTime k r := by
    cases h with
    | same k r => exact ⟨k, r, rfl⟩
    | settled k r => exact ⟨k, r, by rw [settle_of_idle hb]⟩
  obtain ⟨k, r, rfl⟩ := htime
  rw [after_protocol_atTime hi]
  exact .same k r

end

/-! #### Steps with an empty agenda -/

theorem Reaches.refl (s : State) : Reaches s s := ⟨0, rfl⟩

theorem Reaches.head {s t u : State} (hst : step s = .next t) (htu : Reaches t u) : Reaches s u := by
  obtain ⟨n, hn⟩ := htu
  exact ⟨n + 1, by rw [runSteps, hst]; exact hn⟩

theorem Reaches.single {s t : State} (h : step s = .next t) : Reaches s t := .head h (.refl t)

theorem Reaches.trans {s t u : State} (hst : Reaches s t) (htu : Reaches t u) : Reaches s u := by
  obtain ⟨n, hn⟩ := hst
  induction n generalizing s with
  | zero =>
    obtain rfl := Host.Outcome.next.inj hn
    exact htu
  | succ n ih =>
    rw [runSteps] at hn
    split at hn
    next v hv => exact .head hv (ih hn)
    all_goals cases hn

section
variable {s : State} (ha : s.agenda = [])
include ha

theorem step_timer (hr : s.rota = .timer) :
    step s = .next (s.atTime (truncTick s.cfg (s.tick + 1)) .nvdev) := by
  rw [step_quiet ha, hr]
  rfl

theorem step_nvdev (hr : s.rota = .nvdev) : step s = .next (s.settle.atTime s.tick .seq) := by
  rw [step_quiet ha, hr]
  exact (exec_eq .nvdone _).trans (congrArg _ (after_nvdone_eq_settle (s.atTime s.tick .seq)))

theorem step_micro {m : Micro} {ms : List Micro} (hr : s.rota = .seq) (hu : s.ustep = m :: ms) :
    step s = .next (afterMicro m ((s.atTime s.tick .timer).withSeq ms)) := by
  rw [step_quiet ha, hr]
  exact seqStep_of_ustep (s := s.atTime s.tick .timer) hu

/-- TIMER and NVDEV take their turns. -/
theorem reaches_of_timer (hr : s.rota = .timer) : ∃ k, Reaches s (s.settle.atTime k .seq) :=
  ⟨_, .head (step_timer ha hr) (.single (step_nvdev (s := s.atTime _ .nvdev) ha rfl))⟩

/-- SEQ's turn comes. -/
theorem exists_seq_turn : ∃ t, Reaches s t ∧ Later s t ∧ t.rota = .seq := by
  cases hr : s.rota with
  | seq => exact ⟨s, .refl s, .refl s, hr⟩
  | timer =>
    obtain ⟨k, hk⟩ := reaches_of_timer ha hr
    exact ⟨_, hk, .settled k .seq, rfl⟩
  | nvdev => exact ⟨_, .single (step_nvdev ha hr), .settled s.tick .seq, rfl⟩

/-- While a write is in flight an NV.WAIT holds SEQ at it, until NVDEV has had its turn (rule R155). -/
theorem exists_idle_seq_turn {ms : List Micro} (hu : s.ustep = .op .nvWait :: ms) :
    ∃ k, Reaches s (s.settle.atTime k .seq) := by
  cases hr : s.rota with
  | seq =>
    cases hb : s.nvBusy
    · exact ⟨s.tick, by rw [settle_of_idle hb, ← hr]; exact .refl s⟩
    · have hhold : step s = .next (s.atTime s.tick .timer) := by
        rw [step_micro ha hr hu, afterMicro, after_nvWait_of_busy (s := (s.atTime s.tick .timer).withSeq ms) hb]
        change Host.Outcome.next ((s.atTime s.tick .timer).withSeq (.op .nvWait :: ms)) = _
        rw [← hu]
        rfl
      obtain ⟨k, hk⟩ := reaches_of_timer (s := s.atTime s.tick .timer) ha rfl
      exact ⟨k, .head hhold hk⟩
  | timer => exact reaches_of_timer ha hr
  | nvdev => exact ⟨_, .single (step_nvdev ha hr)⟩

end

/-! #### Running SEQ's list -/

/-- In a quiet environment `s` comes to be `t`, but for the time that passes meanwhile. -/
structure QuietRun (s t : State) : Prop where
  quiet : t.agenda = []
  reaches : ∃ u, Reaches s u ∧ Later t u

theorem QuietRun.refl {s : State} (h : s.agenda = []) : QuietRun s s := ⟨h, s, .refl s, .refl s⟩

theorem withSeq_of_ustep {s : State} {ms : List Micro} (h : s.ustep = ms) : s.withSeq ms = s := by
  rw [← h]
  rfl

section
variable {s t : State} {ms : List Micro}

/-- SEQ takes a micro-step that has the same outcome at whatever time it is taken. -/
theorem QuietRun.micro {m : Micro} (h : QuietRun s (t.withSeq (m :: ms)))
    (hm : ∀ u, Later (t.withSeq ms) u → Later (afterMicro m (t.withSeq ms)) (afterMicro m u)) :
    QuietRun s (afterMicro m (t.withSeq ms)) := by
  obtain ⟨ha, u, hsu, htu⟩ := h
  obtain ⟨v, huv, hlater, hr⟩ := exists_seq_turn (htu.agenda_eq.trans ha)
  have htv := htu.trans hlater
  have hstep := step_micro (htv.agenda_eq.trans ha) hr htv.ustep_eq
  exact ⟨(afterMicro_agenda ..).trans ha, _, hsu.trans (huv.trans (.single hstep)),
    hm _ ((htv.trans (.same v.tick .timer)).withSeq ms)⟩

theorem QuietRun.timeless {m : Micro} (h : QuietRun s (t.withSeq (m :: ms))) (hm : m.timeless = true) :
    QuietRun s (afterMicro m (t.withSeq ms)) :=
  h.micro fun _ hl => hl.afterMicro_timeless hm

/-- SEQ takes a protocol step while the device is idle. -/
theorem QuietRun.protocol {i : Instr} (h : QuietRun s (t.withSeq (.op i :: ms))) (hb : t.nvBusy = false)
    (hi : isProtocol i = true) (hw : i ≠ .nvWait) : QuietRun s ((after i t).withSeq ms) := by
  rw [← after_protocol_withSeq hi hw]
  exact h.micro fun _ hl => hl.after_protocol hi hb

/-- SEQ gets past an NV.WAIT when the write in flight has completed. -/
theorem QuietRun.wait (h : QuietRun s (t.withSeq (.op .nvWait :: ms))) : QuietRun s (t.settle.withSeq ms) := by
  obtain ⟨ha, u, hsu, htu⟩ := h
  have hau := htu.agenda_eq.trans ha
  obtain ⟨k, hk⟩ := exists_idle_seq_turn hau htu.ustep_eq
  have hstep := step_micro (s := u.settle.atTime k .seq) hau rfl htu.ustep_eq
  refine ⟨ha, _, hsu.trans (hk.trans (.single hstep)), ?_⟩
  rw [afterMicro, after_nvWait_of_idle rfl]
  cases htu <;> exact .same k .timer

end

/-! #### The writing of one byte -/

/-- `s` when the byte write of `b` at `a` is done, its last step being NV_CURSOR's increment: the byte is still in
flight. -/
def State.byteWritten (s : State) (a b : Byte) : State :=
  { s.settle with nvMode := true, nvAddr := a, nvData := b, nvArm := false, nvBusy := true,
                  nvCursor := s.nvCursor + 1 }

/-- `s` when a WBYTE of `b` is done (rule R161). -/
def State.writeByte (s : State) (b : Byte) : State :=
  if s.nvCursor.toNat < ceiling then s.byteWritten (s.nvCursor.extractLsb' 0 8) b else dropCeil s

theorem settledNv_byteWritten (s : State) (a b : Byte) (x : Nat) :
    (s.byteWritten a b).settledNv x = if x = a.toNat then b else s.settledNv x := by
  rw [← nvRead_settle s x, State.settledNv]
  by_cases hx : x = a.toNat
  · simp [State.byteWritten, hx]
  · simp [State.byteWritten, State.nvRead, hx]

theorem writeByte_of_room {s : State} (b : Byte) (h : s.nvCursor.toNat < ceiling) :
    s.writeByte b = s.byteWritten (s.nvCursor.extractLsb' 0 8) b := if_pos h

theorem writeByte_of_full {s : State} (b : Byte) (h : ceiling ≤ s.nvCursor.toNat) :
    s.writeByte b = dropCeil s := if_neg h.not_gt

theorem addrArg_append (a b : Byte) (s : State) : addrArg (.imm (a ++ b)) s = a := by
  apply BitVec.eq_of_toNat_eq
  rw [addrArg_toNat, argOf, append_toNat]
  omega

theorem byteArg_append (a b : Byte) (s : State) : byteArg (.imm (a ++ b)) s = b := by
  apply BitVec.eq_of_toNat_eq
  rw [byteArg_toNat, argOf, append_toNat]
  omega

theorem byteArg_setWidth (b : Byte) (s : State) : byteArg (.imm (b.setWidth 16)) s = b := by
  apply BitVec.eq_of_toNat_eq
  rw [byteArg_toNat, argOf, BitVec.toNat_setWidth]
  omega

section
variable {s t : State} {b : Byte} {ms : List Micro}

/-- NV.WAIT leaves the device idle, the other four protocol steps find it so, and the increment follows. -/
theorem QuietRun.byteWrite {a : Byte} (h : QuietRun s (t.withSeq (byteWrite a b ++ ms))) :
    QuietRun s ((t.byteWritten a b).withSeq ms) := by
  have hwait := h.wait
  have hidle : t.settle.nvBusy = false := rfl
  have hdone : t.byteWritten a b = bumpCursorStep { t.settle with
    nvMode := true, nvAddr := a, nvData := b, nvArm := false, nvBusy := true } := rfl
  rw [hdone]
  generalize t.settle = d at hwait hidle
  have hdevice : after .nvCommit (after .nvArm (after (.nvLoad (.imm (a ++ b))) (after .nvMode d))) =
      { d with nvMode := true, nvAddr := a, nvData := b, nvArm := false, nvBusy := true } := by
    simp [hidle, addrArg_append, byteArg_append]
  have hmode := hwait.protocol hidle rfl nofun
  have hload := hmode.protocol (by simp [hidle]) rfl nofun
  have harm := hload.protocol (by simp [hidle]) rfl nofun
  have hcommit := harm.protocol (by simp [hidle]) rfl nofun
  rw [hdevice] at hcommit
  exact hcommit.timeless rfl

theorem QuietRun.wbyte (h : QuietRun s (t.withSeq (.op (.wbyte (.imm (b.setWidth 16))) :: ms))) :
    QuietRun s ((t.writeByte b).withSeq ms) := by
  have htest := h.timeless rfl
  rw [State.writeByte]
  split_ifs with hroom
  · rw [afterMicro, after_wbyte_of_room (s := t.withSeq ms) _ hroom, byteArg_setWidth] at htest
    exact htest.byteWrite
  · rwa [afterMicro, after_wbyte_of_full (s := t.withSeq ms) _ (Nat.not_lt.1 hroom)] at htest

/-- The WBYTEs of a byte string, one after the other (rule R163). -/
theorem QuietRun.writeString {bs : List Byte} (h : QuietRun s (t.withSeq (writeString bs ++ ms))) :
    QuietRun s ((bs.foldl State.writeByte t).withSeq ms) := by
  induction bs generalizing t with
  | nil => exact h
  | cons b bs ih => exact ih h.wbyte

end

/-! #### The writing of a byte string (rules R161, R163) -/

/-- `t` is `s` but for the time that passed and for what byte writes and drops write. -/
def WriteFrame (s t : State) : Prop :=
  t = { s with
    tick := t.tick, rota := t.rota, nvCursor := t.nvCursor, nvBusy := t.nvBusy, nvArm := t.nvArm, nvMode := t.nvMode,
    nvAddr := t.nvAddr, nvData := t.nvData, nv := t.nv, nvCeilDrops := t.nvCeilDrops, cond := t.cond }

theorem WriteFrame.trans {s t u : State} (hst : WriteFrame s t) (htu : WriteFrame t u) : WriteFrame s u :=
  Eq.trans htu (by rw [hst])

theorem WriteFrame.ustep {s t : State} (h : WriteFrame s t) : t.ustep = s.ustep := by rw [h]

/-- `t` is what the WBYTEs of `bs` make of `s`. -/
structure Written (bs : List Byte) (s t : State) : Prop where
  cursor : t.nvCursor.toNat = s.nvCursor.toNat + min bs.length (256 - s.nvCursor.toNat)
  bytes : ∀ j (h : j < bs.length), s.nvCursor.toNat + j < 256 → t.settledNv (s.nvCursor.toNat + j) = bs[j]
  others : ∀ a, a < s.nvCursor.toNat ∨ s.nvCursor.toNat + bs.length ≤ a → t.settledNv a = s.settledNv a
  drops : t.nvCeilDrops.toNat = min (s.nvCeilDrops.toNat + (bs.length - (256 - s.nvCursor.toNat))) 65535
  cond : t.cond = if 256 - s.nvCursor.toNat < bs.length then s.cond ||| 0x04#8 else s.cond
  frame : WriteFrame s t

theorem cursor_succ_toNat {c : Cursor} (h : c.toNat < ceiling) : (c + 1).toNat = c.toNat + 1 := by
  rw [ceiling] at h
  rw [BitVec.toNat_add]
  exact Nat.mod_eq_of_lt (by simp; omega)

section
variable {bs : List Byte} {s t : State} (h : Written bs s t)
include h

/-- Below the ceiling the next byte goes to the cursor. -/
theorem Written.append (hroom : s.nvCursor.toNat + bs.length < 256) (b : Byte) :
    Written (bs ++ [b]) s (t.writeByte b) := by
  have hcur : t.nvCursor.toNat = s.nvCursor.toNat + bs.length := by
    rw [h.cursor]
    omega
  have hlt : t.nvCursor.toNat < ceiling := hcur ▸ hroom
  have hnv (a : Nat) : (t.writeByte b).settledNv a =
      if a = s.nvCursor.toNat + bs.length then b else t.settledNv a := by
    rw [writeByte_of_room b hlt, settledNv_byteWritten, cursorByte_toNat hlt, hcur]
  have hlen : (bs ++ [b]).length = bs.length + 1 := List.length_append
  refine ⟨?_, fun j hj hc => ?_, fun a ha => ?_, ?_, ?_, ?_⟩
  · have hsucc : (t.writeByte b).nvCursor.toNat = t.nvCursor.toNat + 1 := by
      rw [writeByte_of_room b hlt]
      exact cursor_succ_toNat hlt
    omega
  · rw [hnv]
    split_ifs with hlast
    · obtain rfl : j = bs.length := by omega
      rw [List.getElem_concat_length rfl]
    · have hold : j < bs.length := by omega
      rw [h.bytes j hold hc, List.getElem_append_left hold]
  · rw [hnv, if_neg (by omega), h.others a (by omega)]
  · rw [writeByte_of_room b hlt]
    exact h.drops.trans (by omega)
  · rw [writeByte_of_room b hlt, if_neg (by omega)]
    exact h.cond.trans (if_neg (by omega))
  · rw [writeByte_of_room b hlt]
    exact h.frame.trans rfl

/-- At the ceiling the next byte is only counted. -/
theorem Written.drop (hfull : 256 ≤ s.nvCursor.toNat + bs.length) (b : Byte) :
    Written (bs ++ [b]) s (t.writeByte b) := by
  have hlen : (bs ++ [b]).length = bs.length + 1 := List.length_append
  have hge : ceiling ≤ t.nvCursor.toNat := by
    rw [h.cursor, ceiling]
    omega
  rw [writeByte_of_full b hge]
  refine ⟨?_, fun j hj hc => ?_, fun a ha => h.others a (by omega), ?_, ?_, h.frame.trans rfl⟩
  · rw [dropCeil_nvCursor, h.cursor]
    omega
  · have hold : j < bs.length := by omega
    rw [List.getElem_append_left hold]
    exact h.bytes j hold hc
  · rw [dropCeil_nvCeilDrops, satInc_toNat, h.drops]
    omega
  · have hdropped : 256 - s.nvCursor.toNat < (bs ++ [b]).length := by omega
    rw [dropCeil_cond, setCondBit_nvCeil, h.cond, if_pos hdropped]
    split_ifs
    · rw [BitVec.or_assoc, BitVec.or_self]
    · rfl

theorem Written.later {u : State} (hl : Later t u) : Written bs s u := by
  have hnv := hl.settledNv_eq
  cases hl <;> exact { h with
    bytes := fun j hj hlt => (hnv _).trans (h.bytes j hj hlt)
    others := fun a ha => (hnv a).trans (h.others a ha)
    frame := h.frame.trans rfl }

end

/-- By induction on the bytes, the latest one last. -/
theorem written_foldl (bs : List Byte) (s : State) : Written bs s (bs.foldl State.writeByte s) := by
  induction bs using List.reverseRecOn with
  | nil =>
    have hsat : s.nvCeilDrops.toNat ≤ 65535 := Nat.le_of_lt_succ s.nvCeilDrops.isLt
    exact ⟨by simp, nofun, fun _ _ => rfl, by simp [hsat], by simp, rfl⟩
  | append_singleton bs b ih =>
    rw [List.foldl_concat]
    obtain hroom | hfull := Nat.lt_or_ge (s.nvCursor.toNat + bs.length) 256
    · exact ih.append hroom b
    · exact ih.drop hfull b

/-- Settles O31: SEQ runs the WBYTEs one by one, and what is left of the run is the time that passes. -/
theorem writeStringStopsAtTheCeiling : Obligations.WriteStringStopsAtTheCeiling := by
  unfold Obligations.WriteStringStopsAtTheCeiling
  intro bs rest s ha hu
  have hw := written_foldl bs (s.withSeq rest)
  have hstart : QuietRun s ((s.withSeq rest).withSeq (writeString bs ++ rest)) :=
    (withSeq_of_ustep hu).symm ▸ .refl ha
  have hend := hstart.writeString
  rw [withSeq_of_ustep (ms := rest) hw.frame.ustep] at hend
  obtain ⟨-, t, hst, hlater⟩ := hend
  obtain ⟨hcursor, hbytes, hothers, hdrops, hcond, hframe⟩ := hw.later hlater
  exact ⟨t, hst, hframe.ustep, hcursor, hbytes, hothers, hdrops, hcond, hframe⟩

end Machine

end Sys2Proof
end

section
/-! ### The session state machine, the producer mask, and a turn of SEQ -/

namespace Sys2Proof.Machine

/-! #### The arcs of SESS (45_session.md rule R185) -/

/-- Among the operations themselves only S.POLL moves SESS, from COLLECTING to CLOSING (rule R187). -/
theorem after_sess_arc (i : Instr) (s : State) :
    (after i s).sess = s.sess ∨ sessArc s.sess (after i s).sess = true := by
  by_cases hp : i = .sPoll
  · subst hp
    rw [after_sPoll_eq]
    split_ifs with hx
    · exact .inr (by rw [hx]; rfl)
    · exact .inl rfl
    · exact .inl rfl
  · exact .inl (after_sess_of_ne s hp)

/-- A micro-step moves SESS along an arc where the course of the session foresees it. -/
theorem afterMicro_sess_arc {m : Micro} {s : State} {ce : Bool} {ms : List Micro}
    (h : sessPath s.sess ce (m :: ms) = true) :
    (afterMicro m s).sess = s.sess ∨ sessArc s.sess (afterMicro m s).sess = true := by
  cases m with
  | op i => exact after_sess_arc i s
  | bumpCursor | savePv => exact .inl rfl
  | ifPv =>
    simp only [afterMicro, ifPvStep]
    split_ifs <;> exact .inl rfl
  | ifPending =>
    obtain ⟨hx, -⟩ := by simpa [sessPath] using h
    simp only [afterMicro, ifPendingStep]
    split_ifs
    · exact .inr (by rw [hx]; rfl)
    · exact .inl rfl
  | setSess y =>
    simp only [sessPath, Bool.and_eq_true] at h
    exact .inr h.1.1.1

/-- Settles O34: an operation moves SESS along an arc or not at all, and so does a micro-step of the list the invariant
describes; no other step touches SESS. -/
theorem sessMovesOnlyAlongItsArcs : Obligations.SessMovesOnlyAlongItsArcs := by
  unfold Obligations.SessMovesOnlyAlongItsArcs
  intro s t hinv hr hstep
  have hpath := hinv.path
  cases step_kind (not_exists.1 hr) hstep with
  | event i | auto i | port i => exact after_sess_arc i _
  | micro m ms ag ro hm =>
    rw [hm] at hpath
    exact afterMicro_sess_arc (s := { s with agenda := ag, rota := ro, ustep := ms }) hpath
  | pass | refuse | read => exact .inl rfl

/-! #### CE (rule R196) -/

/-- Settles O49: MASK and UNMASK by their equations; no other operation writes CE. -/
theorem onlyTheMaskOperationsChangeCE : Obligations.OnlyTheMaskOperationsChangeCE := by
  unfold Obligations.OnlyTheMaskOperationsChangeCE
  intro i s t hexec hne
  obtain rfl := (exec_next_iff i s t).1 hexec
  by_cases hm : i = .mask
  · subst hm
    exact .inl ⟨rfl, rfl⟩
  by_cases hu : i = .unmask
  · subst hu
    rw [after_unmask_eq] at hne ⊢
    split_ifs at hne ⊢ with hx
    · exact absurd rfl hne
    · exact .inr ⟨rfl, rfl, not_or.1 hx⟩
  exact absurd (after_ce_of_ne s hm hu) hne

/-! #### The session operations (rules R186, R187, R189, R190) -/

section
variable {s : State}

theorem after_sInit_of_init (h : s.sess = .init) : after .sInit s = s.pushSeq initSeq := by
  rw [after_sInit_eq, if_pos h]

theorem after_sPoll_of_full (h : s.sess = .collecting) (hcap : s.rdIdx.toNat = s.cfg.cap) :
    after .sPoll s = { s with sess := .closing } := by
  rw [after_sPoll_eq, if_pos h, if_pos hcap]

theorem after_sPoll_of_room (h : s.sess = .collecting) (hcap : s.rdIdx.toNat ≠ s.cfg.cap) :
    after .sPoll s = s.pushSeq pollSeq := by
  rw [after_sPoll_eq, if_pos h, if_neg hcap]

theorem after_sClose_of_closing (h : s.sess = .closing) : after .sClose s = s.pushSeq closeSeq := by
  rw [after_sClose_eq, if_pos h]

theorem after_sIdle_of_idle (h : s.sess = .idle) : after .sIdle s = s := by
  rw [after_sIdle_eq, if_pos h]

end

/-- Settles O32: the test of SESS succeeds, and S.POLL's test of RD_IDX decides between the two expansions. -/
theorem sessionOperationsQueueTheirExpansion : Obligations.SessionOperationsQueueTheirExpansion := by
  unfold Obligations.SessionOperationsQueueTheirExpansion
  refine ⟨rfl, rfl, rfl, rfl, fun s => ⟨fun h => ?_, fun h hcap => ?_, fun h hcap => ?_, fun h => ?_, fun h => ?_⟩⟩
  · rw [exec_eq, after_sInit_of_init h]
    rfl
  · rw [exec_eq, after_sPoll_of_full h hcap]
  · rw [exec_eq, after_sPoll_of_room h hcap]
    rfl
  · rw [exec_eq, after_sClose_of_closing h]
    rfl
  · rw [exec_eq, after_sIdle_of_idle h]

/-! #### A turn of SEQ (rules R191, R192, R194) -/

/-- HOST alone can be held, so a turn of SEQ at the head of the agenda is taken. -/
theorem step_seq_turn {s : State} {rest : List Turn} (h : s.agenda = .seq :: rest) :
    step s = seqStep { s with agenda := rest } := by
  have hnext : nextTurn s = (.seq, { s with agenda := rest }) := by simp [nextTurn, h, hostHeld]
  rw [step, advance, hnext]
  rfl

theorem seqStep_of_auto {s : State} {i : Instr} (hu : s.ustep = []) (hm : s.stepMode = false)
    (hi : autoOp s.sess = some i) : seqStep s = exec i s := by
  simp [seqStep, issueNext, hu, hm, hi]

theorem seqStep_of_step {s : State} (hu : s.ustep = []) (hm : s.stepMode = true) : seqStep s = .next s := by
  simp [seqStep, issueNext, hu, hm]

theorem ifPvStep_of_valid {s : State} (h : s.pvT = true) : ifPvStep s = s.pushSeq recordSeq := if_pos h

theorem ifPvStep_of_invalid {s : State} (h : s.pvT = false) : ifPvStep s = s := if_neg (ne_true_of_eq_false h)

theorem ifPendingStep_of_one {s : State} (h : s.res = 1) :
    ifPendingStep s = State.pushSeq (drainSeq ++ [.setSess .collecting]) { s with sess := .draining } := if_pos h

theorem ifPendingStep_of_ne_one {s : State} (h : s.res ≠ 1) : ifPendingStep s = s := if_neg h

/-- Settles O41: the micro-steps one by one, then the operation of each session state. -/
theorem seqRunsItsListThenTheSession : Obligations.SeqRunsItsListThenTheSession := by
  unfold Obligations.SeqRunsItsListThenTheSession
  intro s rest ha
  have hstep := step_seq_turn ha
  have hmicro {m : Micro} {ms : List Micro} (hu : s.ustep = m :: ms) :
      step s = .next (afterMicro m { s with agenda := rest, ustep := ms }) :=
    hstep.trans (seqStep_of_ustep (s := { s with agenda := rest }) hu)
  refine ⟨fun i ms hu => ?_, fun ms hu => hmicro hu, fun ms hu => ⟨fun hpv => ?_, fun hpv => ?_⟩,
    fun ms hu => ⟨fun hres => ?_, fun hres => ?_⟩, fun x ms hu => hmicro hu, fun ms hu => hmicro hu,
    fun hu hm => ?_, fun hu hm => ?_⟩
  · rw [hmicro hu, exec_eq]
    rfl
  · exact (hmicro hu).trans (congrArg _ (ifPvStep_of_valid hpv))
  · exact (hmicro hu).trans (congrArg _ (ifPvStep_of_invalid hpv))
  · exact (hmicro hu).trans (congrArg _ (ifPendingStep_of_one hres))
  · exact (hmicro hu).trans (congrArg _ (ifPendingStep_of_ne_one hres))
  · exact hstep.trans (seqStep_of_step hu hm)
  · have hauto {i : Instr} (hi : autoOp s.sess = some i) : step s = exec i { s with agenda := rest } :=
      hstep.trans (seqStep_of_auto (s := { s with agenda := rest }) hu hm hi)
    exact ⟨fun hx => hauto (hx ▸ rfl), fun hx => hauto (hx ▸ rfl), fun hx => hauto (hx ▸ rfl),
      fun hx => hauto (hx ▸ rfl)⟩

end Sys2Proof.Machine
end

section
/-! ### Whole session operations in a quiet environment -/

namespace Sys2Proof

/-- The fixed lengths of HEADER and TRAILER (00_scope.md rule R5). -/
theorem Config.wf_lengths {c : Config} (h : c.wf = true) : c.header.length = 12 ∧ c.trailer.length = 3 := by
  simp only [Config.wf, Bool.and_eq_true, decide_eq_true_eq] at h
  omega

namespace Machine

/-- Every label has LBL_LEN bytes (00_scope.md rule R5). -/
theorem label_length {c : Config} (h : c.wf = true) (v : Word) : (label c v).length = 3 := by
  simp only [Config.wf, Bool.and_eq_true, decide_eq_true_eq] at h
  obtain ⟨⟨⟨⟨-, hfwd⟩, hrew⟩, hstop⟩, hunk⟩ := h
  rw [label_eq]
  split_ifs
  exacts [hfwd, hrew, rfl, hstop, hunk]

/-! #### What SEQ still has to do has no say in what an operation does -/

section
variable (s : State) (ms : List Micro)

theorem argOf_withSeq (o : Operand) : argOf o (s.withSeq ms) = argOf o s := by cases o <;> rfl

theorem ite_withSeq (p : Prop) [Decidable p] (a b : State) :
    (if p then a else b).withSeq ms = if p then a.withSeq ms else b.withSeq ms := apply_ite (State.withSeq · ms) p a b

theorem symbolStep_withSeq (x : Symbol) : symbolStep x (s.withSeq ms) = (symbolStep x s).withSeq ms := by
  cases x with
  | low | high =>
    simp only [symbolStep, symbolLow, symbolHigh, complete, ite_withSeq]
    rfl
  | short | long => rfl

theorem noteSaturation_withSeq (d : Word) : noteSaturation d (s.withSeq ms) = (noteSaturation d s).withSeq ms := by
  rw [noteSaturation, noteSaturation, ite_withSeq]
  rfl

theorem noteUnknown_withSeq : noteUnknown (s.withSeq ms) = (noteUnknown s).withSeq ms := by
  rw [noteUnknown, noteUnknown, ite_withSeq]
  rfl

/-- What an operation does does not depend on what SEQ has left to do, in front of which it puts its expansion
(30_encoding.md rule R99). -/
theorem after_withSeq {i : Instr} (hi : (Micro.op i).timeless = true) :
    after i (s.withSeq ms) = (after i s).withSeq (expansion i s ++ ms) := by
  cases i with
  | hasp | mask | whdr | wtrl => rfl
  | peek | adv | unmask =>
    simp only [after_peek_eq, after_adv_eq, after_unmask_eq, ite_withSeq]
    rfl
  | seek o | delta o | classify o => cases o <;> rfl
  | decShort | decLow | decHigh | decLong =>
    simp only [after_decShort_eq, after_decLow_eq, after_decHigh_eq, after_decLong_eq, symbolStep_withSeq]
    rfl
  | decR => exact symbolStep_withSeq s ms (resSymbol s)
  | wbyte o =>
    obtain hroom | hfull := Nat.lt_or_ge s.nvCursor.toNat ceiling
    · rw [after_wbyte_of_room (s := s.withSeq ms) o hroom, after_wbyte_of_room o hroom, expansion, if_pos hroom,
        byteArg, argOf_withSeq]
      rfl
    · rw [after_wbyte_of_full (s := s.withSeq ms) o hfull, after_wbyte_of_full o hfull, expansion,
        if_neg hfull.not_gt]
      rfl
  | record o =>
    rw [after_record_eq, noteSaturation_withSeq, tickArg, argOf_withSeq]
    rfl
  | wlbl =>
    rw [after_wlbl_eq, noteUnknown_withSeq]
    rfl
  | _ => cases hi

end

theorem pushSeq_of_idle {s : State} (h : s.ustep = []) (ms : List Micro) : s.pushSeq ms = s.withSeq ms := by
  rw [State.pushSeq, h, List.append_nil]
  rfl

/-- The passing of time as one update of `s`. -/
theorem Later.exists_eq {s t : State} (h : Later s t) :
    ∃ k r nv busy, t = { s with tick := k, rota := r, nv := nv, nvBusy := busy } := by
  cases h with
  | same k r => exact ⟨k, r, s.nv, s.nvBusy, rfl⟩
  | settled k r => exact ⟨k, r, _, false, rfl⟩

/-! #### SEQ's list, one micro-step after the other -/

section
variable {s t : State} {ms : List Micro}

/-- A micro-step by what it makes of the state. -/
theorem QuietRun.timeless_eq {m : Micro} {u : State} (h : QuietRun s (t.withSeq (m :: ms))) (hm : m.timeless = true)
    (hu : afterMicro m (t.withSeq ms) = u) : QuietRun s u :=
  hu ▸ h.timeless hm

theorem QuietRun.op {i : Instr} (h : QuietRun s (t.withSeq (.op i :: ms))) (hi : (Micro.op i).timeless = true) :
    QuietRun s ((after i t).withSeq (expansion i t ++ ms)) :=
  h.timeless_eq hi (after_withSeq t ms hi)

/-- An operation by what it makes of the state. -/
theorem QuietRun.op_eq {i : Instr} {u : State} (h : QuietRun s (t.withSeq (.op i :: ms)))
    (hi : (Micro.op i).timeless = true) (hu : after i t = u) : QuietRun s (u.withSeq (expansion i t ++ ms)) :=
  hu ▸ h.op hi

theorem QuietRun.setSess {x : Sess} (h : QuietRun s (t.withSeq (.setSess x :: ms))) :
    QuietRun s (State.withSeq { t with sess := x } ms) :=
  h.timeless rfl

theorem QuietRun.savePv (h : QuietRun s (t.withSeq (.savePv :: ms))) :
    QuietRun s (State.withSeq { t with pvT := t.prevValid } ms) :=
  h.timeless rfl

theorem QuietRun.ifPv_of_valid (h : QuietRun s (t.withSeq (.ifPv :: ms))) (hv : t.pvT = true) :
    QuietRun s (t.withSeq (recordSeq ++ ms)) :=
  h.timeless_eq rfl (ifPvStep_of_valid hv)

theorem QuietRun.ifPv_of_invalid (h : QuietRun s (t.withSeq (.ifPv :: ms))) (hv : t.pvT = false) :
    QuietRun s (t.withSeq ms) :=
  h.timeless_eq rfl (ifPvStep_of_invalid hv)

theorem QuietRun.ifPending_of_one (h : QuietRun s (t.withSeq (.ifPending :: ms))) (hres : t.res = 1) :
    QuietRun s (State.withSeq { t with sess := .draining } (drainSeq ++ [.setSess .collecting] ++ ms)) :=
  h.timeless_eq rfl (ifPendingStep_of_one hres)

theorem QuietRun.ifPending_of_ne_one (h : QuietRun s (t.withSeq (.ifPending :: ms))) (hres : t.res ≠ 1) :
    QuietRun s (t.withSeq ms) :=
  h.timeless_eq rfl (ifPendingStep_of_ne_one hres)

/-- `s` with the producer enabled, in COLLECTING. -/
def State.collecting (s : State) : State := { s with ce := true, sess := .collecting }

/-- The way into COLLECTING: `UNMASK; SESS <- COLLECTING` ends S.INIT and the drain (rules R186 to R188). -/
theorem QuietRun.collect (h : QuietRun s (t.withSeq (.op .unmask :: .setSess .collecting :: ms)))
    (hx : ¬ (t.sess = .closing ∨ t.sess = .idle)) :
    QuietRun s (t.collecting.withSeq ms) := by
  have hunmask := h.op rfl
  rw [after_unmask_eq, if_neg hx] at hunmask
  exact hunmask.setSess

/-- SEQ writes a byte string, the WBYTEs of which stand at the head of its list. -/
theorem QuietRun.written {bs : List Byte} (h : QuietRun s (t.withSeq (Machine.writeString bs ++ ms))) :
    ∃ w, Written bs t w ∧ QuietRun s (w.withSeq ms) :=
  ⟨_, written_foldl bs t, h.writeString⟩

end

/-- A byte string that fits below the ceiling is written whole from the cursor `n`, and nothing is dropped. -/
theorem Written.of_fits {bs : List Byte} {s t : State} {n : Nat} (h : Written bs s t) (hn : s.nvCursor.toNat = n)
    (hfit : n + bs.length ≤ 256) :
    t.nvCursor.toNat = n + bs.length ∧ (∀ j (h : j < bs.length), t.settledNv (n + j) = bs[j]) ∧
    (∀ a, a < n ∨ n + bs.length ≤ a → t.settledNv a = s.settledNv a) ∧
    t.nvCeilDrops = s.nvCeilDrops ∧ t.cond = s.cond := by
  subst hn
  have hsat : s.nvCeilDrops.toNat ≤ 65535 := Nat.le_of_lt_succ s.nvCeilDrops.isLt
  refine ⟨?_, fun j hj => h.bytes j hj (by omega), h.others, BitVec.eq_of_toNat_eq ?_, ?_⟩
  · rw [h.cursor]
    omega
  · rw [h.drops]
    omega
  · rw [h.cond, if_neg (by omega)]

/-! #### S.POLL with nothing pending (rule R187) -/

/-- Settles O59: HASP answers 0, so the poll ends with the test of its answer. -/
theorem pollWithNothingPendingOnlyClearsRes : Obligations.PollWithNothingPendingOnlyClearsRes := by
  unfold Obligations.PollWithNothingPendingOnlyClearsRes
  intro s ha hu hx hcap hnone
  have hstart : QuietRun (s.withSeq pollSeq) (s.withSeq pollSeq) := .refl ha
  have hhasp := hstart.op rfl
  rw [after_hasp_eq, if_neg (not_pending_of_le hnone)] at hhasp
  have hend := hhasp.ifPending_of_ne_one (by simp)
  rw [withSeq_of_ustep (s := { s with res := 0 }) hu] at hend
  obtain ⟨-, t, hreach, hlater⟩ := hend
  refine ⟨_, t, exec_eq .sPoll s, ?_, hlater.settledNv_eq, ?_⟩
  · rwa [after_sPoll_of_room hx hcap, pushSeq_of_idle hu]
  · obtain ⟨k, r, nv, busy, rfl⟩ := hlater.exists_eq
    rfl

/-! #### S.INIT from reset (rule R186) -/

section
variable {s t : State} (h : WriteFrame s t)
include h

theorem WriteFrame.cfg : t.cfg = s.cfg := by rw [h]
theorem WriteFrame.sess : t.sess = s.sess := by rw [h]
theorem WriteFrame.cmd : t.cmd = s.cmd := by rw [h]
theorem WriteFrame.wrIdx : t.wrIdx = s.wrIdx := by rw [h]

end

/-- The run of S.INIT's expansion. -/
theorem QuietRun.sInit {s t : State} (h : QuietRun s (t.withSeq initSeq)) (hx : t.sess = .init) :
    ∃ w, Written t.cfg.header t w ∧ QuietRun s (w.collecting.withSeq []) := by
  obtain ⟨w, hw, hrun⟩ := QuietRun.written (t := t) (bs := t.cfg.header) (h.op rfl)
  refine ⟨w, hw, hrun.collect ?_⟩
  rw [hw.frame.sess, hx]
  exact nofun

/-- Settles O35: AUTO mode issues S.INIT in the first step, and the header fits below the ceiling. -/
theorem sessionStartsWithTheHeader : Obligations.SessionStartsWithTheHeader := by
  unfold Obligations.SessionStartsWithTheHeader
  intro c nv hc
  have hissue : step (State.afterReset c false nv) =
      .next (((State.afterReset c false nv).atTime 0 .timer).withSeq initSeq) := rfl
  obtain ⟨w, hw, -, t, hreach, hlater⟩ :=
    QuietRun.sInit (t := (State.afterReset c false nv).atTime 0 .timer) (.refl rfl) rfl
  have hlen : c.header.length = 12 := (Config.wf_lengths hc).1
  obtain ⟨hcur, hbytes, -, -, hcond⟩ := hw.of_fits rfl (by change 0 + c.header.length ≤ 256; omega)
  have hcur' : w.nvCursor = 12 := BitVec.eq_of_toNat_eq (hcur.trans (congrArg (0 + ·) hlen))
  have hbytes' (j : Nat) (h : j < c.header.length) : t.settledNv j = c.header[j] := by
    have hbyte : w.settledNv (0 + j) = c.header[j] := hbytes j h
    rw [Nat.zero_add] at hbyte
    exact (hlater.settledNv_eq j).trans hbyte
  refine ⟨t, .head hissue hreach, ?_⟩
  obtain ⟨k, r, nv', busy, rfl⟩ := hlater.exists_eq
  exact ⟨rfl, rfl, rfl, hcur', hcond, hw.frame.wrIdx, hbytes'⟩

/-! #### S.CLOSE (rule R189) -/

theorem writeFrame_noteUnknown (s : State) : WriteFrame s (noteUnknown s) := by
  rw [WriteFrame, noteUnknown_frame]

theorem settledNv_noteUnknown (s : State) (a : Nat) : (noteUnknown s).settledNv a = s.settledNv a := by
  rw [noteUnknown_frame]
  rfl

/-- The run of S.CLOSE's expansion. -/
theorem QuietRun.sClose {s t : State} (h : QuietRun s (t.withSeq closeSeq)) :
    ∃ w v, Written t.cfg.trailer { t with ce := false, nvCursor := 253 } w ∧
      Written (label t.cfg t.cmd) (noteUnknown { w with nvCursor := 250 }) v ∧
      QuietRun s (State.withSeq { v with sess := .idle } []) := by
  have hmask := h.op rfl
  have hseek := hmask.op rfl
  obtain ⟨w, hw, htrailer⟩ := QuietRun.written (t := { t with ce := false, nvCursor := 253 })
    (bs := t.cfg.trailer) (hseek.op rfl)
  have hseek' := htrailer.op rfl
  obtain ⟨v, hv, hlabel⟩ := QuietRun.written (t := noteUnknown { w with nvCursor := 250 })
    (bs := label w.cfg w.cmd) (hseek'.op rfl)
  have hsame : label w.cfg w.cmd = label t.cfg t.cmd := by rw [hw.frame.cfg, hw.frame.cmd]
  exact ⟨w, v, hw, hsame ▸ hv, hlabel.setSess⟩

/-- Settles O37: marker and label fit below the ceiling, and the label's bytes lie below the marker's. -/
theorem closeWritesMarkerAndLabel : Obligations.CloseWritesMarkerAndLabel := by
  unfold Obligations.CloseWritesMarkerAndLabel
  intro s hc ha hu hx
  have htrailer : s.cfg.trailer.length = 3 := (Config.wf_lengths hc).2
  have hlabel : (label s.cfg s.cmd).length = 3 := label_length hc s.cmd
  obtain ⟨w, v, hw, hv, -, t, hreach, hlater⟩ := QuietRun.sClose (t := s) (.refl ha)
  obtain ⟨-, hmarker, hw_others, hw_drops, hw_cond⟩ := hw.of_fits (n := 253) rfl (by omega)
  obtain ⟨hlen, hbytes, hv_others, hv_drops, hv_cond⟩ :=
    hv.of_fits (n := 250) (by rw [noteUnknown_nvCursor]; rfl) (by omega)
  have hnv (a : Nat) : t.settledNv a = v.settledNv a := hlater.settledNv_eq a
  have hrest (a : Nat) (h : a < 250 ∨ 253 ≤ a) : t.settledNv a = w.settledNv a :=
    (hnv a).trans ((hv_others a (by omega)).trans (settledNv_noteUnknown _ a))
  have hcur : v.nvCursor = 253 := BitVec.eq_of_toNat_eq (hlen.trans (congrArg (250 + ·) hlabel))
  have hdrops : v.nvCeilDrops = s.nvCeilDrops := hv_drops.trans ((noteUnknown_nvCeilDrops _).trans hw_drops)
  have hcond : v.cond = if s.cmd = s.cfg.keyFwd ∨ s.cmd = s.cfg.keyRew ∨ s.cmd = s.cfg.keyPlay ∨
      s.cmd = s.cfg.keyStop then s.cond else s.cond ||| 0x08#8 := by
    rw [hv_cond, noteUnknown_cond]
    dsimp only
    rw [hw.frame.cfg, hw.frame.cmd, hw_cond]
  have hseek : WriteFrame w { w with nvCursor := 250 } := rfl
  have hframe : WriteFrame { s with ce := false } v :=
    hw.frame.trans (hseek.trans ((writeFrame_noteUnknown _).trans hv.frame))
  have hce : v.ce = false := by rw [hframe]
  rw [WriteFrame, hcur, hdrops] at hframe
  have hmarker' (j : Nat) (h : j < s.cfg.trailer.length) : t.settledNv (253 + j) = s.cfg.trailer[j] :=
    (hrest _ (by omega)).trans (hmarker j h)
  have hlabel' (j : Nat) (h : j < (label s.cfg s.cmd).length) : t.settledNv (250 + j) = (label s.cfg s.cmd)[j] :=
    (hnv _).trans (hbytes j h)
  have hothers (a : Nat) (h : a < 250 ∨ 256 ≤ a) : t.settledNv a = s.settledNv a :=
    (hrest a (by omega)).trans (hw_others a (by omega))
  refine ⟨_, t, exec_eq .sClose s, by rwa [after_sClose_of_closing hx, pushSeq_of_idle hu], ?_⟩
  obtain ⟨k, r, nv, busy, rfl⟩ := hlater.exists_eq
  exact ⟨rfl, rfl, hce, hcur, hmarker', hlabel', hothers, hcond, by rw [hframe, hu]; rfl⟩

end Machine

end Sys2Proof
end

section
/-! ### The drain of one timestamp -/

namespace Sys2Proof

namespace Machine

/-- A stored timestamp has TICK_W bits. -/
theorem Inv.tsRead_narrow {s : State} (h : Inv s) {i : Nat} (hi : i < s.wrIdx.toNat) :
    (s.tsRead i).toNat < 2 ^ s.cfg.tickW := by
  have hlisted : (Memory.read? s.ts i).isSome = true := (h.ts_listed i).trans (decide_eq_true hi)
  obtain ⟨v, hv⟩ := Option.isSome_iff_exists.1 hlisted
  rw [State.tsRead, hv]
  exact h.ts_narrow i v hv

/-- The code of a symbol, as CLASSIFY leaves it in RES. -/
theorem resSymbol_symbolCode {s : State} {x : Symbol} (h : s.res = (symbolCode x).setWidth 16) : resSymbol s = x := by
  apply resSymbol_of_code
  rw [h]
  cases x <;> rfl

/-- The decoder is in the same state. -/
def SameDecoder (s t : State) : Prop :=
  t.acc = s.acc ∧ t.bitpos = s.bitpos ∧ t.cmd = s.cmd ∧ t.frames = s.frames

/-- `s` with the code of `x` in RES and the decoder of `v`. -/
def State.withSymbol (s : State) (x : Symbol) (v : State) : State :=
  { s with res := (symbolCode x).setWidth 16, acc := v.acc, bitpos := v.bitpos, cmd := v.cmd, frames := v.frames }

/-- CLASSIFY and DEC.R on a duration: the decoder's transition depends on nothing but the decoder. -/
theorem symbolStep_withRes (x : Symbol) {s t : State} (h : SameDecoder s t) :
    symbolStep x { t with res := (symbolCode x).setWidth 16 } = t.withSymbol x (symbolStep x s) := by
  obtain ⟨hacc, hpos, hcmd, hframes⟩ := h
  have ht : t = { t with acc := s.acc, bitpos := s.bitpos, cmd := s.cmd, frames := s.frames } := by
    rw [← hacc, ← hpos, ← hcmd, ← hframes]
  rw [ht]
  cases x with
  | short | long => rfl
  | low | high =>
    simp only [symbolStep, symbolLow, symbolHigh, complete]
    split_ifs <;> rfl

theorem writeFrame_noteSaturation (d : Word) (s : State) : WriteFrame s (noteSaturation d s) := by
  rw [WriteFrame, noteSaturation_frame]

theorem settledNv_noteSaturation (d : Word) (s : State) (a : Nat) :
    (noteSaturation d s).settledNv a = s.settledNv a := by
  rw [noteSaturation_frame]
  rfl

/-- `t` is what a RECORD of `d` makes of `s`: the four bytes below the ceiling, the drops, and the conditions of both
(44_recorder.md rules R161, R165). -/
structure Recorded (d : Word) (s t : State) : Prop where
  cursor : t.nvCursor.toNat = s.nvCursor.toNat + min 4 (256 - s.nvCursor.toNat)
  bytes : ∀ j (h : j < (fmt d).length), s.nvCursor.toNat + j < 256 →
    t.settledNv (s.nvCursor.toNat + j) = (fmt d)[j]
  others : ∀ a, a < s.nvCursor.toNat ∨ s.nvCursor.toNat + 4 ≤ a → t.settledNv a = s.settledNv a
  drops : t.nvCeilDrops.toNat = min (s.nvCeilDrops.toNat + (4 - (256 - s.nvCursor.toNat))) 65535
  cond : t.cond = (s.cond ||| if 999 < d.toNat then 0x20#8 else 0#8) |||
    (if 256 - s.nvCursor.toNat < 4 then 0x04#8 else 0#8)
  frame : WriteFrame s t

theorem Written.recorded {d : Word} {s t : State} (h : Written (fmt d) (noteSaturation d s) t) :
    Recorded d s t := by
  obtain ⟨hcur, hbytes, hothers, hdrops, hcond, hframe⟩ := h
  have hlen : (fmt d).length = 4 := rfl
  simp only [noteSaturation_nvCursor, noteSaturation_nvCeilDrops, noteSaturation_cond, settledNv_noteSaturation,
    hlen] at hcur hbytes hothers hdrops hcond
  refine ⟨hcur, hbytes, hothers, hdrops, ?_, (writeFrame_noteSaturation d s).trans hframe⟩
  rw [hcond]
  split_ifs <;> simp only [BitVec.or_zero]

/-- `s` when the drain has come to its conditional part (45_session.md rule R188): the timestamp at RD_IDX is consumed
and remembered, and RES is its distance to the one before. -/
def State.drained (s : State) : State :=
  { s with
    sess := .draining
    ce := false
    rdIdx := s.rdIdx + 1
    prevTs := s.tsRead s.rdIdx.toNat
    prevValid := true
    pvT := s.prevValid
    res := truncTick s.cfg (s.tsRead s.rdIdx.toNat - s.prevTs) }

theorem drained_nvCursor (s : State) : s.drained.nvCursor = s.nvCursor := rfl
theorem drained_nvCeilDrops (s : State) : s.drained.nvCeilDrops = s.nvCeilDrops := rfl
theorem drained_cond (s : State) : s.drained.cond = s.cond := rfl

theorem after_hasp_of_pending {s : State} (h : s.pending = true) : after .hasp s = { s with res := 1 } := by
  rw [after_hasp_eq, if_pos h]

theorem after_peek_of_pending {s : State} (h : s.pending = true) :
    after .peek s = { s with res := s.tsRead s.rdIdx.toNat } := by
  rw [after_peek_eq, if_pos h]

theorem after_adv_of_pending {s : State} (h : s.pending = true) : after .adv s = { s with rdIdx := s.rdIdx + 1 } := by
  rw [after_adv_eq, if_pos h]

/-- DELTA takes the whole of a timestamp in RES. -/
theorem after_delta_of_narrow {s : State} (h : s.res.toNat < 2 ^ s.cfg.tickW) : after (.delta .res) s =
    { s with res := truncTick s.cfg (s.res - s.prevTs), prevTs := s.res, prevValid := true } := by
  rw [after_delta_eq, tickArg, argOf, truncTick_of_narrow s.cfg s.res h]

section
variable {s t : State}

/-- The run of S.POLL's expansion with a timestamp pending, up to the conditional part of the drain. -/
theorem QuietRun.drained (h : QuietRun s (t.withSeq pollSeq)) (hp : t.pending = true)
    (hn : (t.tsRead t.rdIdx.toNat).toNat < 2 ^ t.cfg.tickW) :
    QuietRun s (t.drained.withSeq [.ifPv, .op .unmask, .setSess .collecting]) := by
  have hhasp : QuietRun s (State.withSeq { t with res := 1 } _) := h.op_eq rfl (after_hasp_of_pending hp)
  have hmask : QuietRun s (State.withSeq { t with res := 1, sess := .draining, ce := false } _) :=
    (hhasp.ifPending_of_one rfl).op rfl
  have hpeek := hmask.op_eq rfl (after_peek_of_pending hp)
  have hadv := hpeek.op_eq rfl (after_adv_of_pending hp)
  exact hadv.savePv.op_eq rfl (after_delta_of_narrow hn)

/-- The run of the conditional part of the drain on the duration in RES. -/
theorem QuietRun.recorded {v : State} {ms : List Micro} (h : QuietRun s (t.withSeq (recordSeq ++ ms)))
    (hn : t.res.toNat < 2 ^ t.cfg.tickW) (hv : SameDecoder v t) :
    ∃ w, Recorded t.res t w ∧
      QuietRun s ((w.withSymbol (classifyDuration t.res) (symbolStep (classifyDuration t.res) v)).withSeq ms) := by
  have harg : tickArg .res t = t.res := truncTick_of_narrow t.cfg t.res hn
  have hrecord := h.op rfl
  rw [after_record_eq, expansion, harg] at hrecord
  obtain ⟨w, hw, hwritten⟩ := QuietRun.written (t := noteSaturation t.res t) (bs := fmt t.res) hrecord
  have hframe := hw.recorded.frame
  have harg' : tickArg .res w = tickArg .res t := by rw [hframe]; rfl
  have hdecoder : SameDecoder v w := by rw [hframe]; exact hv
  have hclassify := hwritten.op_eq rfl (after_classify_eq w .res)
  rw [harg', harg] at hclassify
  have hdec := hclassify.op rfl
  rw [after_decR_eq, resSymbol_symbolCode rfl, symbolStep_withRes _ hdecoder] at hdec
  exact ⟨w, hw.recorded, hdec⟩

end

/-- Settles O36: the drain moves the queue and DELTA; a first timestamp ends it there, and any other one's duration is
recorded, classified and decoded first. -/
theorem pollDrainsOneTimestamp : Obligations.PollDrainsOneTimestamp := by
  unfold Obligations.PollDrainsOneTimestamp
  intro s d hinv ha hu hx hp hd
  have hc := hinv.cfg_wf
  have hcap : s.rdIdx.toNat ≠ s.cfg.cap := (Nat.lt_of_lt_of_le hp hinv.wr_le_cap).ne
  have hres : truncTick s.cfg (s.tsRead s.rdIdx.toNat - s.prevTs) = d := by
    apply BitVec.eq_of_toNat_eq
    zify
    rw [hd, truncTick_sub_toNat (Config.wf_bounds hc).1]
  have hissue : after .sPoll s = s.withSeq pollSeq := by rw [after_sPoll_of_room hx hcap, pushSeq_of_idle hu]
  have hrd := idx_succ_toNat hp (Nat.le_of_lt_succ s.wrIdx.isLt)
  have hdrained := QuietRun.drained (t := s) (.refl ha) (pending_of_lt hp) (hinv.tsRead_narrow hp)
  cases hpv : s.prevValid with
  | false =>
    obtain ⟨-, t, hreach, hlater⟩ := (hdrained.ifPv_of_invalid hpv).collect nofun
    refine ⟨_, t, exec_eq .sPoll s, hissue ▸ hreach, ?_⟩
    have hnv (a : Nat) : t.settledNv a = s.settledNv a := hlater.settledNv_eq a
    obtain ⟨k, r, nv, busy, rfl⟩ := hlater.exists_eq
    exact ⟨rfl, rfl, rfl, hrd, rfl, rfl, fun _ => ⟨hres, hnv, by rw [State.drained, hres, hpv, hu, hx]; rfl⟩, nofun⟩
  | true =>
    obtain ⟨w, hw, hrun⟩ := (hdrained.ifPv_of_valid hpv).recorded (v := s)
      (truncTick_narrow _ _ (Config.wf_bounds hc).1) ⟨rfl, rfl, rfl, rfl⟩
    rw [show s.drained.res = d from hres] at hw hrun
    obtain ⟨hcur, hbytes, hothers, hdrops, hcond, hframe⟩ := hw
    rw [drained_nvCursor] at hcur hdrops hcond
    rw [drained_nvCeilDrops] at hdrops
    rw [drained_cond] at hcond
    obtain ⟨hsess, hrdw, hprev, hvalid⟩ : w.sess = .draining ∧ w.rdIdx.toNat = s.rdIdx.toNat + 1 ∧
        w.prevTs = s.tsRead s.rdIdx.toNat ∧ w.prevValid = true := by
      rw [hframe]
      exact ⟨rfl, hrd, rfl, rfl⟩
    obtain ⟨-, t, hreach, hlater⟩ := hrun.collect (by rw [State.withSymbol, hsess]; exact nofun)
    have hnv (a : Nat) : t.settledNv a = w.settledNv a := hlater.settledNv_eq a
    have hrecord (j : Nat) (h : j < (fmt d).length) (hlt : s.nvCursor.toNat + j < 256) :
        t.settledNv (s.nvCursor.toNat + j) = (fmt d)[j] := (hnv _).trans (hbytes j h hlt)
    have hrest (a : Nat) (h : a < s.nvCursor.toNat ∨ s.nvCursor.toNat + 4 ≤ a) : t.settledNv a = s.settledNv a :=
      (hnv a).trans (hothers a h)
    refine ⟨_, t, exec_eq .sPoll s, hissue ▸ hreach, ?_⟩
    obtain ⟨k, r, nv, busy, rfl⟩ := hlater.exists_eq
    exact ⟨rfl, rfl, rfl, hrdw, hprev, hvalid, nofun, fun _ => ⟨rfl, hrecord, hrest, hcur, hdrops, hcond,
      ⟨_, exec_decOf (classifyDuration d) s, rfl, rfl, rfl, rfl⟩,
      by rw [hframe, State.drained, hpv, hu, hx]; rfl⟩⟩

end Machine

end Sys2Proof
end

section
/-! ### Events, conditions and counters: what a step may touch, and what it can never take back -/

namespace Sys2Proof.Machine

/-! #### The events (60_exceptions.md rule R218) -/

/-- EDGE leaves COND alone or raises the condition of one of the two drops (41_edge_queue.md rule R115). -/
theorem after_edge_cond (s : State) : (after .edge s).cond = s.cond ∨
    (after .edge s).cond = setCondBit s.cond .edgeFull ∨
    (after .edge s).cond = setCondBit s.cond .edgeMasked := by
  rw [after_edge_eq]
  split_ifs
  · exact .inl rfl
  · exact .inr (.inl rfl)
  · exact .inr (.inr rfl)

theorem getLsbD_setCondBit_of_ne (v : BitVec 8) {c : Cond} {k : Nat} (h : k ≠ condCode c) :
    (setCondBit v c).getLsbD k = v.getLsbD k := by
  rw [getLsbD_setCondBit, decide_eq_false h, Bool.or_false]

/-- Settles O43: each branch of an event's operation is an update of the elements named. -/
theorem eventsTouchOnlyTheirElements : Obligations.EventsTouchOnlyTheirElements := by
  unfold Obligations.EventsTouchOnlyTheirElements
  intro s t
  simp only [exec_next_iff]
  refine ⟨?_, ?_, ?_⟩ <;> rintro rfl
  · rfl
  · refine ⟨fun k hfull hmasked => ?_, ?_⟩
    · obtain hc | hc | hc := after_edge_cond s <;> rw [hc]
      · exact getLsbD_setCondBit_of_ne s.cond hfull
      · exact getLsbD_setCondBit_of_ne s.cond hmasked
    · rw [after_edge_eq]
      split_ifs <;> rfl
  · rw [after_nvdone_eq]
    split_ifs <;> rfl

/-! #### The operations of SEQ (rule R221) -/

/-- An operation other than EDGE raises no condition but its own (rule R211). -/
theorem after_hasCond_of_ne_ownCond {i : Instr} (s : State) {c : Cond} (he : i ≠ .edge) (hc : c ≠ ownCond i) :
    (after i s).hasCond c = s.hasCond c := by
  have hcode : condCode c ≠ condCode (ownCond i) := fun e => hc (condCode_injective e)
  obtain h | h := after_cond_of_ne s he <;> rw [State.hasCond, h]
  · rfl
  · exact getLsbD_setCondBit_of_ne s.cond hcode

/-- No operation's own condition is one of the producer's. -/
theorem ownCond_ne_edge (i : Instr) : .edgeFull ≠ ownCond i ∧ .edgeMasked ≠ ownCond i := by
  cases i <;> exact ⟨nofun, nofun⟩

/-- Only NVDONE ends a write (rule R35). -/
theorem after_nvBusy_mono {i : Instr} (hd : i ≠ .nvdone) {s : State} (h : s.nvBusy = true) :
    (after i s).nvBusy = true := by
  by_cases hc : i = .nvCommit
  · subst hc
    rw [after_nvCommit_of_not_ready (.inl h)]
    exact h
  · rwa [after_nvBusy_of_ne s hc hd]

/-- Settles O44: SEQ issues no event, and only an event writes each of these elements. -/
theorem seqNeverWritesTheProducersState : Obligations.SeqNeverWritesTheProducersState := by
  unfold Obligations.SeqNeverWritesTheProducersState
  intro i s t hi hexec
  obtain rfl := (exec_next_iff i s t).1 hexec
  have ht : i ≠ .tick := ne_tick_of_issuable hi
  have he : i ≠ .edge := by rintro rfl; cases hi
  have hd : i ≠ .nvdone := by rintro rfl; cases hi
  obtain ⟨hfull, hmasked⟩ := ownCond_ne_edge i
  exact ⟨after_tick_of_ne s ht, after_ts_of_ne s he, after_wrIdx_of_ne s he, after_edgeFullDrops_of_ne s he,
    after_edgeMaskDrops_of_ne s he, after_hasCond_of_ne_ownCond s he hfull,
    after_hasCond_of_ne_ownCond s he hmasked, after_nv_of_ne s hd, after_nvBusy_mono hd⟩

/-! #### What no step takes back (rule R212) -/

theorem getLsbD_setCondBit_mono {v : BitVec 8} (c : Cond) {k : Nat} (h : v.getLsbD k = true) :
    (setCondBit v c).getLsbD k = true := by
  rw [getLsbD_setCondBit, h, Bool.true_or]

theorem after_hasCond_mono (i : Instr) {s : State} {c : Cond} (h : s.hasCond c = true) :
    (after i s).hasCond c = true := by
  by_cases he : i = .edge
  · subst he
    obtain hc | hc | hc := after_edge_cond s <;> rw [State.hasCond, hc]
    · exact h
    · exact getLsbD_setCondBit_mono _ h
    · exact getLsbD_setCondBit_mono _ h
  · obtain hc | hc := after_cond_of_ne s he <;> rw [State.hasCond, hc]
    · exact h
    · exact getLsbD_setCondBit_mono _ h

theorem after_edgeFullDrops_le (i : Instr) (s : State) :
    s.edgeFullDrops.toNat ≤ (after i s).edgeFullDrops.toNat := by
  by_cases he : i = .edge
  · subst he
    rw [after_edge_eq]
    split_ifs
    · exact le_rfl
    · exact satInc_le s.edgeFullDrops
    · exact le_rfl
  · rw [after_edgeFullDrops_of_ne s he]

theorem after_edgeMaskDrops_le (i : Instr) (s : State) :
    s.edgeMaskDrops.toNat ≤ (after i s).edgeMaskDrops.toNat := by
  by_cases he : i = .edge
  · subst he
    rw [after_edge_eq]
    split_ifs
    · exact le_rfl
    · exact le_rfl
    · exact satInc_le s.edgeMaskDrops
  · rw [after_edgeMaskDrops_of_ne s he]

theorem after_nvCeilDrops_le (i : Instr) (s : State) :
    s.nvCeilDrops.toNat ≤ (after i s).nvCeilDrops.toNat := by
  by_cases hw : ∃ o, i = .wbyte o
  · obtain ⟨o, rfl⟩ := hw
    rw [after_wbyte_eq]
    split_ifs
    · exact le_rfl
    · exact satInc_le s.nvCeilDrops
  · rw [after_nvCeilDrops_of_ne s (not_exists.1 hw)]

/-- FRAMES counts the words the decoder publishes (43_decoder.md rule R145). -/
theorem after_frames (i : Instr) (s : State) : (after i s).frames = (symbolStep (fedSymbol s i) s).frames := by
  cases i <;> simp [fedSymbol, apply_ite State.frames, symbolStep]

theorem complete_frames_le (acc : Word) (n : Nat) (s : State) :
    s.frames.toNat ≤ (complete acc n s).frames.toNat := by
  unfold complete
  split_ifs
  · exact satInc_le s.frames
  · exact le_rfl

theorem symbolStep_frames_le (x : Symbol) (s : State) : s.frames.toNat ≤ (symbolStep x s).frames.toNat := by
  cases x with
  | short | long => exact le_rfl
  | low => exact complete_frames_le s.acc _ s
  | high => exact complete_frames_le _ _ s

theorem after_frames_le (i : Instr) (s : State) : s.frames.toNat ≤ (after i s).frames.toNat := by
  rw [after_frames]
  exact symbolStep_frames_le _ s

theorem after_prevValid_of_ne {i : Instr} (s : State) (h : ∀ o, i ≠ .delta o) :
    (after i s).prevValid = s.prevValid := by
  cases i <;> simp [apply_ite State.prevValid] at h ⊢

/-- DELTA sets PREV_VALID, and nothing clears it (rule R25). -/
theorem after_prevValid_mono (i : Instr) {s : State} (h : s.prevValid = true) : (after i s).prevValid = true := by
  by_cases hd : ∃ o, i = .delta o
  · obtain ⟨o, rfl⟩ := hd
    rw [after_delta_eq]
  · rwa [after_prevValid_of_ne s (not_exists.1 hd)]

/-- Settles O46: no operation takes any of it back, and any other step writes none of it but the BAD_OP bit, which it
can only set. -/
theorem conditionsStayUntilReset : Obligations.ConditionsStayUntilReset := by
  unfold Obligations.ConditionsStayUntilReset
  intro s t hr hstep
  cases stepShape_of_not_resetsNext hr hstep with
  | op i ms ag ro fc =>
    let u : State := { s with ustep := ms, agenda := ag, rota := ro, freeCtr := fc }
    exact ⟨fun _ => after_hasCond_mono i (s := u), after_edgeFullDrops_le i u, after_edgeMaskDrops_le i u,
      after_nvCeilDrops_le i u, after_frames_le i u, after_nvMode_mono i (s := u), after_prevValid_mono i (s := u)⟩
  | control cu pv ms x co ag ro fc hd hco =>
    refine ⟨fun c h => ?_, le_rfl, le_rfl, le_rfl, le_rfl, id, id⟩
    obtain rfl | rfl := hco
    · exact h
    · exact getLsbD_setCondBit_mono .badOp h

/-! #### No step faults or is refused (rule R210) -/

theorem exists_exec_eq (i : Instr) (s : State) : ∃ t, exec i s = .next t := ⟨after i s, exec_eq i s⟩

theorem exists_seqStep_eq (s : State) : ∃ t, seqStep s = .next t := by
  cases hu : s.ustep with
  | cons m ms => exact ⟨_, seqStep_of_ustep hu⟩
  | nil =>
    cases hm : s.stepMode with
    | true => exact ⟨s, seqStep_of_step hu hm⟩
    | false =>
      cases hi : autoOp s.sess with
      | some i => exact ⟨_, (seqStep_of_auto hu hm hi).trans (exec_eq i s)⟩
      | none => exact ⟨s, by simp [seqStep, issueNext, hu, hm, hi]⟩

theorem exists_portWrite_eq (w : OpWord) (s : State) : ∃ t, portWrite w s = .next t := by
  by_cases hr : s.stepMode = false ∨ decodePort w = none
  · exact ⟨s.refuse, portWrite_refused hr⟩
  · obtain ⟨hm, hd⟩ := not_or.1 hr
    obtain ⟨i, hi⟩ := Option.ne_none_iff_exists'.1 hd
    exact ⟨_, (portWrite_accepted (Bool.not_eq_false _ ▸ hm) hi).trans (exec_eq i s)⟩

theorem exists_tieStep_eq (s : State) : ∃ t, tieStep s = .next t := by
  unfold tieStep
  split_ifs
  · exact exists_exec_eq .tick _
  · exact exists_exec_eq .edge _

theorem exists_takeTurn_eq (x : Turn) (s : State) : ∃ t, takeTurn x s = .next t := by
  cases x with
  | timer => exact exists_exec_eq .tick s
  | pin => exact exists_exec_eq .edge s
  | nvdev => exact exists_exec_eq .nvdone s
  | seq => exact exists_seqStep_eq s
  | tickAndEdge => exact exists_tieStep_eq s
  | host a =>
    cases a with
    | read | reset => exact ⟨_, rfl⟩
    | write a v =>
      rw [takeTurn, hostWriteStep]
      split_ifs
      · exact exists_portWrite_eq v s
      · exact ⟨s, rfl⟩

/-- Settles O38: every operation answers a next state, and so does every turn. -/
theorem nothingEverStopsTheBlock : Obligations.NothingEverStopsTheBlock :=
  ⟨exists_exec_eq, fun s => exists_takeTurn_eq (nextTurn s).1 (nextTurn s).2⟩

/-! #### A turn is its agent's step (rules R213, R216) -/

/-- HOST alone can be held, so a turn of anybody else at the head of the agenda is taken. -/
theorem step_agent_turn {s : State} {x : Turn} {rest : List Turn} (hx : ∀ a, x ≠ .host a)
    (h : s.agenda = x :: rest) : step s = takeTurn x { s with agenda := rest } := by
  have hfree : hostHeld x s = false := by
    cases x with
    | host a => exact absurd rfl (hx a)
    | _ => rfl
  have hnext : nextTurn s = (x, { s with agenda := rest }) := by simp [nextTurn, h, hfree]
  rw [step, advance, hnext]

theorem tieStep_of_tickFirst {s : State} (h : tickFirst s = true) :
    tieStep s = exec .tick { s with agenda := .pin :: s.agenda, freeCtr := s.freeCtr + 1 } := if_pos h

theorem tieStep_of_edgeFirst {s : State} (h : tickFirst s = false) :
    tieStep s = exec .edge { s with agenda := .timer :: s.agenda, freeCtr := s.freeCtr + 1 } :=
  if_neg (ne_true_of_eq_false h)

/-- Settles O42: the turn at the head is taken; of a coincidence TIE_ORDER says which event is first, or the free
value does. -/
theorem eventsAreStepsOfTheirAgents : Obligations.EventsAreStepsOfTheirAgents := by
  unfold Obligations.EventsAreStepsOfTheirAgents
  intro s rest
  have htie (h : s.agenda = .tickAndEdge :: rest) : step s = tieStep { s with agenda := rest } :=
    step_agent_turn (x := .tickAndEdge) nofun h
  refine ⟨step_agent_turn nofun, step_agent_turn nofun, step_agent_turn nofun,
    fun h ho => ?_, fun h ho => ?_, fun h _ => ?_⟩
  · exact (htie h).trans (tieStep_of_tickFirst (by rw [tickFirst, ho]))
  · exact (htie h).trans (tieStep_of_edgeFirst (by rw [tickFirst, ho]))
  · rw [htie h]
    cases hfirst : tickFirst { s with agenda := rest } with
    | true => exact .inl (tieStep_of_tickFirst hfirst)
    | false => exact .inr (tieStep_of_edgeFirst hfirst)

end Sys2Proof.Machine
end

section
/-! ### Reset in the middle of anything, and the block after the end of a run (70_reset_and_hazards.md) -/

namespace Sys2Proof.Machine

/-! #### Reset (rules R240, R241) -/

/-- A reset is no bus access, so it is never held. -/
theorem nextTurn_reset {s : State} {strap : Bool} {rest : List Turn} (h : s.agenda = .host (.reset strap) :: rest) :
    nextTurn s = (.host (.reset strap), { s with agenda := rest }) := by
  simp [nextTurn, h, hostHeld, HostAct.isBus]

/-- A reset cuts the write in flight, if there is one, at NV_ADDR and touches no other byte. -/
theorem read?_nvAfterReset {s : State} {a : Nat} (h : s.nvBusy = false ∨ a ≠ s.nvAddr.toNat) :
    Memory.read? (nvAfterReset s) a = Memory.read? s.nv a := by
  unfold nvAfterReset
  split_ifs with hb
  · exact Memory.read?_write_other _ _ (h.resolve_left (ne_false_of_eq_true hb))
  · rfl

theorem nvRead_applyReset (strap : Bool) {s : State} {a : Nat} (h : s.nvBusy = false ∨ a ≠ s.nvAddr.toNat) :
    (applyReset strap s).nvRead a = s.nvRead a :=
  congrArg (·.getD (Config.nvInitial a)) (read?_nvAfterReset h)

/-- Settles O55: the turn is never held, `afterReset` lists the values of rule R47, and the storage has its own
lemma. -/
theorem resetClearsAllButTheStorage : Obligations.ResetClearsAllButTheStorage := by
  unfold Obligations.ResetClearsAllButTheStorage
  intro s strap rest h
  have hnext := nextTurn_reset h
  have hstep : step s = .next (applyReset strap { s with agenda := rest }) := by
    rw [step_reset (congrArg Prod.fst hnext), hnext]
  refine ⟨_, hstep, ?_⟩
  repeat refine ⟨rfl, ?_⟩
  exact ⟨fun _ => rfl, fun a => nvRead_applyReset strap⟩

/-! #### After the end of a run (rule R244) -/

/-- Between two operations of AUTO mode with the run over: the producer is masked (10_state.md rule R41 (g)) and the
device idle. -/
structure AtRest (s : State) : Prop where
  auto : s.stepMode = false
  between : s.ustep = []
  idle : s.sess = .idle
  settled : s.nvBusy = false
  masked : s.ce = false

theorem done_iff (s : State) : s.done = true ↔ s.sess = .idle ∧ s.nvBusy = false := by
  simp [State.done]

theorem Inv.atRest {s : State} (h : Inv s) (hdone : s.done = true) (hm : s.stepMode = false) (hu : s.ustep = []) :
    AtRest s := by
  obtain ⟨hidle, hbusy⟩ := (done_iff s).1 hdone
  exact ⟨hm, hu, hidle, hbusy, h.idle_masked hidle⟩

theorem AtRest.own {s : State} (h : AtRest s) {ag : List Turn} {ro : Rota} {fc : Nat} :
    AtRest { s with agenda := ag, rota := ro, freeCtr := fc } :=
  ⟨h.auto, h.between, h.idle, h.settled, h.masked⟩

/-- From `s` to `t` nothing has moved but TICK, the count and the condition of the masked edges, and the model's own
fields. -/
structure Drift (s t : State) : Prop where
  cond : ∀ k, k ≠ condCode .edgeMasked → t.cond.getLsbD k = s.cond.getLsbD k
  frame : t = { s with
    tick := t.tick, edgeMaskDrops := t.edgeMaskDrops, cond := t.cond, agenda := t.agenda, rota := t.rota,
    freeCtr := t.freeCtr, hostData := t.hostData }

/-- A run that is over stays over: SESS and NV_BUSY are not among what moves. -/
theorem Drift.done_eq {s t : State} (h : Drift s t) : t.done = s.done := by
  rw [h.frame]
  rfl

theorem Drift.refl (s : State) : Drift s s := ⟨fun _ _ => rfl, rfl⟩

/-- The model's own fields may have moved before as well. -/
theorem Drift.of_own {s t : State} {ag : List Turn} {ro : Rota} {fc : Nat}
    (h : Drift { s with agenda := ag, rota := ro, freeCtr := fc } t) : Drift s t :=
  ⟨h.cond, h.frame⟩

section
variable {s t : State} (h : AtRest s)
include h

/-- A TICK counts, an EDGE is dropped as masked, and no NVDONE is enabled. -/
theorem AtRest.event {i : Instr} (hi : i = .tick ∨ i = .edge ∨ i = .nvdone) (ht : exec i s = .next t) :
    Drift s t := by
  obtain rfl := (exec_next_iff i s t).1 ht
  obtain rfl | rfl | rfl := hi
  · exact ⟨fun _ _ => rfl, rfl⟩
  · rw [after_edge_of_masked h.masked]
    exact ⟨fun _ hk => getLsbD_setCondBit_of_ne s.cond hk, rfl⟩
  · rw [after_nvdone_of_idle h.settled]
    exact .refl s

/-- SEQ issues S.IDLE, which changes nothing (45_session.md rule R190). -/
theorem AtRest.seqStep_eq : seqStep s = .next s := by
  have hi : autoOp s.sess = some .sIdle := by rw [h.idle, autoOp]
  rw [seqStep_of_auto h.between h.auto hi, exec_eq, after_sIdle_of_idle h.idle]

/-- Of a coincidence the first event is taken, and the model's own fields remember the second. -/
theorem AtRest.tieStep (ht : tieStep s = .next t) : Drift s t := by
  unfold Machine.tieStep at ht
  split_ifs at ht
  · exact .of_own (h.own.event (.inl rfl) ht)
  · exact .of_own (h.own.event (.inr (.inl rfl)) ht)

/-- A turn that is neither a reset nor a write to the command port. -/
theorem AtRest.takeTurn {x : Turn} (hr : ∀ strap, x ≠ .host (.reset strap)) (hw : ∀ v, x ≠ .host (.write opwAddr v))
    (ht : takeTurn x s = .next t) : Drift s t := by
  cases x with
  | timer => exact h.event (.inl rfl) ht
  | pin => exact h.event (.inr (.inl rfl)) ht
  | nvdev => exact h.event (.inr (.inr rfl)) ht
  | seq =>
    obtain rfl := Host.Outcome.next.inj (h.seqStep_eq.symm.trans ht)
    exact .refl s
  | tickAndEdge => exact h.tieStep ht
  | host a =>
    cases a with
    | read a =>
      obtain rfl := Host.Outcome.next.inj ht
      exact ⟨fun _ _ => rfl, rfl⟩
    | write a v =>
      obtain ⟨rfl, -⟩ | ⟨-, rfl⟩ := hostWriteStep_cases ht
      · exact absurd rfl (hw v)
      · exact .refl t
    | reset strap => exact absurd rfl (hr strap)

end

/-- Settles O54: the invariant masks the producer, so every turn left to a finished run is a drift. -/
theorem finishedRunStaysFinished : Obligations.FinishedRunStaysFinished := by
  unfold Obligations.FinishedRunStaysFinished
  intro s t hinv hdone hm hu hr hw hstep
  obtain ⟨ag, ro, hturn⟩ := nextTurn_snd s
  rw [step, advance, hturn] at hstep
  have hrest : AtRest s := hinv.atRest hdone hm hu
  have hd : Drift s t := .of_own (hrest.own.takeTurn (not_exists.1 hr) hw hstep)
  exact ⟨hd.done_eq.trans hdone, hd.cond, hd.frame⟩

end Sys2Proof.Machine
end
